-- ==== Sys2Proof/Word.lean ====
section
/-! DEFINITION. The part's number types: bytes, addresses, and the indexes of its fixed collections
(00_scope, Tables 0-3 and 0-5). -/

namespace Sys2Proof

/-- One byte of data, of a maintenance frame, or a check byte. -/
abbrev Byte := BitVec 8

/-- A master, M0 to M3; also the number of its front channel (00, Table 0-3). -/
abbrev Master := Fin 4

/-- A context, 0 to 7 (R2). -/
abbrev Ctx := Fin 8

/-- A window index, 0 to 15, within its context (R2). -/
abbrev WinIx := Fin 16

/-- A back-port tag of the pool, 0 to 5 (R116). -/
abbrev TagNo := Fin 6

/-- A logical byte address, 000000h to FFFFFFh (00, Table 0-3). -/
abbrev LogAddr := BitVec 24

/-- A physical word address, 0 to 2^29 − 1 (00, Table 0-3). -/
abbrev WordAddr := BitVec 29

/-- Eight bytes: the lanes of a front channel, or the positions of a word. -/
abbrev Bytes8 := Vector Byte 8

/-- Eight bytes of 00h. -/
def Bytes8.zero : Bytes8 := Vector.replicate 8 0

/-- The four masters in order, M0 first. -/
def masters : List Master := [0, 1, 2, 3]

/-- The six tags in order. -/
def tagNos : List TagNo := [0, 1, 2, 3, 4, 5]

/-- The eight contexts in order. -/
def ctxs : List Ctx := [0, 1, 2, 3, 4, 5, 6, 7]

/-- The sixteen window indexes in order. -/
def winIxs : List WinIx := [0, 1, 2, 3, 4, 5, 6, 7, 8, 9, 10, 11, 12, 13, 14, 15]

end Sys2Proof
end

