-- ==== Sys2Proof/Syntax.lean ====
section
/-! DEFINITION. The commands: one constructor of `Instr` for each row of spec/opcode_table.json, with its operands. -/

namespace Sys2Proof

/-- The direction of a request (R46). -/
inductive ReqKind where
  | read
  | write
  deriving DecidableEq, Repr

/-- A request offer as it stands on a front channel's request path (R46). The size is carried as size minus one. -/
structure Offer where
  kind   : ReqKind
  addr   : LogAddr
  sizeM1 : BitVec 3
  lanes  : Bytes8
  deriving DecidableEq, Repr

/-- The status of memory's ANSWER (R114). -/
inductive AnswerStatus where
  | ok
  | error
  deriving DecidableEq, Repr

/-- Which operation a grant to a request source takes when both are ready; the spec does not fix it
(R75; notes/assumptions/5.md). -/
inductive OpChoice where
  | first
  | second
  deriving DecidableEq, Repr

/-- What a command frame carries after its byte 0: the further complete bytes, and the number of bits of an
incomplete final byte, 0 to 7 (R167). -/
structure Frame where
  args : List Byte
  tail : Nat
  deriving DecidableEq, Repr

/-- The commands of the part, one for each row of spec/opcode_table.json. -/
inductive Instr where
  /-- REQUEST_ACCEPTANCE (R49): channel m presents this offer, and takes it if it may (R47). -/
  | requestAcceptance (m : Master) (o : Offer)
  /-- OFFER_REMOVAL (R47): master m removes the offer that was taken. -/
  | offerRemoval (m : Master)
  /-- SEARCH_BEGIN (R36). -/
  | searchBegin
  /-- SEARCH_COMPLETION (R38): the first attempt completes. -/
  | searchCompletion
  /-- REPEATED_SEARCH_COMPLETION (R39). -/
  | repeatedSearchCompletion
  /-- TAG_GRANT (R119): the grant of FREE tag t; `choice` matters when both operations of the source are ready. -/
  | tagGrant (t : TagNo) (choice : OpChoice)
  /-- ANSWER (R114, R180): the tag on the answer path is 0 to 7. -/
  | answer (tag : BitVec 3) (status : AnswerStatus) (data : Bytes8) (check : Byte)
  /-- DEADLINE_EXPIRY (R124): the deadline count of tag t expires. -/
  | deadlineExpiry (t : TagNo)
  /-- CLEARED (R131). -/
  | cleared
  /-- CLEAR_DEADLINE_EXPIRY (R132). -/
  | clearDeadlineExpiry
  /-- CHANNEL_RESET_ASSERTION (R62): CRSTm# is asserted. -/
  | channelResetAssertion (m : Master)
  /-- CHANNEL_RESET_RELEASE (R64): CRSTm# is released. -/
  | channelResetRelease (m : Master)
  /-- POWER_ON_RESET (R66): PORST# is asserted. -/
  | powerOnReset
  /-- POWER_ON_RESET_RELEASE (R181): PORST# is released. -/
  | powerOnResetRelease
  /-- SHORT_PERIOD (R167): a maintenance period of fewer than 8 MCLK rising edges. -/
  | shortPeriod (edges : Nat)
  /-- READ_PERIOD (R168): byte 0 is 00h; `bytes` complete bytes and `tail` further bits are clocked. -/
  | readPeriod (bytes : Nat) (tail : Nat)
  /-- BADCMD (R169): a command frame whose byte 0 is no command code. -/
  | badcmd (code : Byte) (f : Frame)
  /-- STATUS (R172). -/
  | status (f : Frame)
  /-- STAGE (R13). -/
  | stage (f : Frame)
  /-- COMMIT (R15). -/
  | commit (f : Frame)
  /-- READ_WINDOW (R11). -/
  | readWindow (f : Frame)
  /-- BIND (R137). -/
  | bind (f : Frame)
  /-- READ_BINDING (R175). -/
  | readBinding (f : Frame)
  /-- READ_STREAM (R176). -/
  | readStream (f : Frame)
  /-- POP_FAULT (R164). -/
  | popFault (f : Frame)
  /-- SET_DEADLINE (R178). -/
  | setDeadline (f : Frame)
  /-- BACK_CLEAR (R129). -/
  | backClear (f : Frame)
  /-- MSEL_ASSERTION (R167): MSEL# is asserted and a period begins. -/
  | mselAssertion
  deriving DecidableEq, Repr

end Sys2Proof
end

