-- ==== Sys2Proof/WellFormed.lean ====
section
/-! DEFINITION. Which commands are well formed: the operand ranges that the types do not already give
(R167, R169). -/

namespace Sys2Proof

/-- The ten command codes of Table 10-1. -/
def commandCodes : List Byte := [0x01, 0x10, 0x11, 0x12, 0x20, 0x21, 0x22, 0x30, 0x40, 0x41]

/-- A frame's incomplete final byte has fewer than 8 bits (R167). -/
def Frame.wellFormed (f : Frame) : Bool := decide (f.tail < 8)

/-- The operands are ones the part can be given: a short period has fewer than 8 edges, a read period at least one
complete byte, a BADCMD frame a byte 0 that is neither 00h nor a command code (R167, R169). -/
def Instr.wellFormed : Instr → Bool
  | .requestAcceptance _ _ => true
  | .offerRemoval _ => true
  | .searchBegin => true
  | .searchCompletion => true
  | .repeatedSearchCompletion => true
  | .tagGrant _ _ => true
  | .answer _ _ _ _ => true
  | .deadlineExpiry _ => true
  | .cleared => true
  | .clearDeadlineExpiry => true
  | .channelResetAssertion _ => true
  | .channelResetRelease _ => true
  | .powerOnReset => true
  | .powerOnResetRelease => true
  | .shortPeriod edges => decide (edges < 8)
  | .readPeriod bytes tail => decide (1 ≤ bytes) && decide (tail < 8)
  | .badcmd code f => code != 0 && !commandCodes.contains code && f.wellFormed
  | .status f => f.wellFormed
  | .stage f => f.wellFormed
  | .commit f => f.wellFormed
  | .readWindow f => f.wellFormed
  | .bind f => f.wellFormed
  | .readBinding f => f.wellFormed
  | .readStream f => f.wellFormed
  | .popFault f => f.wellFormed
  | .setDeadline f => f.wellFormed
  | .backClear f => f.wellFormed
  | .mselAssertion => true

end Sys2Proof
end

