-- ==== Sys2Proof/Decode.lean ====
section
/-! DEFINITION. Decoding. No row of spec/opcode_table.json gives bits, so `decodeTableWord` answers none. What the
spec encodes in bytes are the periods of the maintenance link (R167, R169, Table 10-1): `decodePeriod` reads the
command a period carries, `encodePeriod` the period a command is carried by. -/

namespace Sys2Proof

/-- The command that a word of the opcode table spells: none, since no row gives bits (notes/assumptions/18.md). -/
def decodeTableWord (_nbits _w : Nat) : Option Instr := none

/-- What a period of the link carried on MDI: its complete bytes, and the bits of an incomplete final byte (R167). -/
structure PeriodBits where
  bytes : List Byte
  tail  : Nat
  deriving DecidableEq, Repr

/-- The command a period carries, judged at its frame event (R167, R169, Table 10-1). -/
def decodePeriod (p : PeriodBits) : Instr :=
  match p.bytes with
  | [] => .shortPeriod p.tail
  | code :: args =>
    let f : Frame := ⟨args, p.tail⟩
    if code = 0x00 then .readPeriod (args.length + 1) p.tail
    else if code = 0x01 then .status f
    else if code = 0x10 then .stage f
    else if code = 0x11 then .commit f
    else if code = 0x12 then .readWindow f
    else if code = 0x20 then .bind f
    else if code = 0x21 then .readBinding f
    else if code = 0x22 then .readStream f
    else if code = 0x30 then .popFault f
    else if code = 0x40 then .setDeadline f
    else if code = 0x41 then .backClear f
    else .badcmd code f

/-- The period that carries a command of the link; none for a command that is not one (Table 10-1). A read period's
further MDI bytes are not decoded (R167); 00h stands for them. -/
def encodePeriod : Instr → Option PeriodBits
  | .requestAcceptance _ _ => none
  | .offerRemoval _ => none
  | .searchBegin => none
  | .searchCompletion => none
  | .repeatedSearchCompletion => none
  | .tagGrant _ _ => none
  | .answer _ _ _ _ => none
  | .deadlineExpiry _ => none
  | .cleared => none
  | .clearDeadlineExpiry => none
  | .channelResetAssertion _ => none
  | .channelResetRelease _ => none
  | .powerOnReset => none
  | .powerOnResetRelease => none
  | .shortPeriod edges => some ⟨[], edges⟩
  | .readPeriod bytes tail => some ⟨List.replicate bytes 0, tail⟩
  | .badcmd code f => some ⟨code :: f.args, f.tail⟩
  | .status f => some ⟨0x01 :: f.args, f.tail⟩
  | .stage f => some ⟨0x10 :: f.args, f.tail⟩
  | .commit f => some ⟨0x11 :: f.args, f.tail⟩
  | .readWindow f => some ⟨0x12 :: f.args, f.tail⟩
  | .bind f => some ⟨0x20 :: f.args, f.tail⟩
  | .readBinding f => some ⟨0x21 :: f.args, f.tail⟩
  | .readStream f => some ⟨0x22 :: f.args, f.tail⟩
  | .popFault f => some ⟨0x30 :: f.args, f.tail⟩
  | .setDeadline f => some ⟨0x40 :: f.args, f.tail⟩
  | .backClear f => some ⟨0x41 :: f.args, f.tail⟩
  | .mselAssertion => none

end Sys2Proof
end

