-- ==== Sys2Proof/Config.lean ====
section
/-! DEFINITION. What the part fixes: its capacities (00_scope, Table 0-5) and power-on constants. The spec leaves
no instruction's result undefined, so there is no opaque constant here; the choices it leaves open (which FREE tag,
which of two ready operations) are operands of TAG_GRANT (notes/assumptions/5.md). -/

namespace Sys2Proof.Config

/-- Places of the Posted Write Queue (R97). -/
def pwqCapacity : Nat := 8

/-- Records the Fault Log can hold (R162). -/
def logCapacity : Nat := 16

/-- The deadline value after power-on reset, in units of 256 back-port clock periods (R122). -/
def powerOnDeadline : BitVec 8 := 64

end Sys2Proof.Config
end

