-- ==== Sys2Proof/Machine/State.lean ====
section
/-! DEFINITION. The state of the part, block by block as Table 0-1 lists them, as plain data, and its value after
reset. -/

namespace Sys2Proof.Machine

/-- What stops the part: nothing. No rule of the spec stops it; every command ends in a next state. The type is
empty, so no statement can meet a fault (safe). -/
inductive Fault : Type
  deriving DecidableEq, Repr

/-- Commands the model refuses. -/
inductive Refusal where
  /-- Raised by no arm of `exec`: the form the host reads for a row that has no meaning yet (safe). -/
  | notModelled (mnemonic : String)
  deriving DecidableEq, Repr

/-! ## Window Table and Staging Record (chapter 1) -/

/-- The posting mode of a window (R6). -/
inductive Posting where
  | posted
  | strict
  deriving DecidableEq, Repr

/-- A window image: the fields of Table 1-1 but the generation. The length is held as length minus one. -/
structure Image where
  valid   : Bool
  start   : BitVec 16
  lenM1   : BitVec 16
  base    : BitVec 24
  readOk  : Bool
  writeOk : Bool
  posting : Posting
  deriving DecidableEq, Repr

/-- A window record (Table 1-1). -/
structure Window where
  image : Image
  gen   : BitVec 8
  deriving DecidableEq, Repr

/-- The Window Table: the slots, by context and index, and the context versions (R2, R9). -/
structure WindowTable where
  slots    : Vector (Vector Window 16) 8
  versions : Vector (BitVec 8) 8
  deriving DecidableEq, Repr

/-- The Staging Record (R12). -/
structure Staging where
  image  : Image
  loaded : Bool
  deriving DecidableEq, Repr

/-! ## Translation (chapter 2) -/

/-- The copy of a window's fields that a part or a stream record holds (R27, R29). -/
structure WinCopy where
  index   : WinIx
  gen     : BitVec 8
  start   : BitVec 16
  lenM1   : BitVec 16
  base    : BitVec 24
  readOk  : Bool
  writeOk : Bool
  posting : Posting
  deriving DecidableEq, Repr

/-- A present stream record (R29). -/
structure StreamRec where
  ctx : Ctx
  win : WinCopy
  deriving DecidableEq, Repr

/-- A part label (R24). -/
inductive Label where
  | only
  | first
  | second
  deriving DecidableEq, Repr

/-- An entry of the lookup wait list (R34). -/
structure Lookup where
  master  : Master
  ctx     : Ctx
  granule : BitVec 16
  label   : Label
  deriving DecidableEq, Repr

/-- The lookup being served: its entry, the captured context version, the abandoned mark (section 2.5). -/
structure Served where
  lookup    : Lookup
  captured  : BitVec 8
  abandoned : Bool
  deriving DecidableEq, Repr

/-- The Search Engine (Table 2-1). -/
inductive Engine where
  | idle
  | searching (v : Served)
  | repeating (v : Served)
  deriving DecidableEq, Repr

/-- A run of lanes, or of byte positions: the first, and how many. -/
structure Run where
  lo  : Nat
  len : Nat
  deriving DecidableEq, Repr

/-- A part's translation status (R27). -/
inductive PartStatus where
  | waiting
  | translated
  | denied
  | unmapped
  deriving DecidableEq, Repr

/-- A part of an access (R26, R27). `snapshot` numbers the PWQ entries for the part's words that stood in the queue
when the part was found TRANSLATED (R73). -/
structure Part where
  label    : Label
  lanes    : Run
  status   : PartStatus
  copy     : Option WinCopy
  snapshot : List Nat
  deriving DecidableEq, Repr

/-! ## Word operations (chapter 4) -/

/-- The phase of an RMW (R80). -/
inductive Phase where
  | readPhase
  | writePhase
  deriving DecidableEq, Repr

/-- The kind of a word operation, with the phase that an RMW alone has (Table 4-1). -/
inductive Work where
  | read
  | write
  | rmw (p : Phase)
  deriving DecidableEq, Repr

/-- A failure at memory or at readiness: the status of a word operation, and the cause of a POSTED record. -/
inductive Cause where
  | check
  | memory
  | timeout
  deriving DecidableEq, Repr

/-- The status of a DONE operation (R68). -/
inductive OpStatus where
  | ok
  | failed (c : Cause)
  deriving DecidableEq, Repr

/-- The state of a word operation, with its tag while ISSUED and, after a failure, the tag of the failure (Table 4-1). -/
inductive OpState where
  | pending
  | issued (t : TagNo)
  | done (status : OpStatus) (tag : Option TagNo)
  deriving DecidableEq, Repr

/-- A word operation of a request (Table 4-1). Its master is the number of the record that holds it. -/
structure WordOp where
  label    : Label
  ctx      : Ctx
  winIx    : WinIx
  gen      : BitVec 8
  word     : WordAddr
  mask     : Run
  lanes    : Run
  data     : Bytes8
  work     : Work
  state    : OpState
  snapshot : List Nat
  deriving DecidableEq, Repr

/-! ## Front channels and request records (chapter 3) -/

/-- The states of a record that holds a request (Table 3-1); IDLE is the absence of a request. -/
inductive ReqState where
  | lookup
  | held
  | active
  deriving DecidableEq, Repr

/-- The request a record holds (R48). `ops` are in lane order, the one that carries lane 0 first. -/
structure Request where
  state    : ReqState
  serial   : BitVec 8
  kind     : ReqKind
  addr     : LogAddr
  sizeM1   : BitVec 3
  data     : Bytes8
  ctx      : Ctx
  part1    : Part
  part2    : Option Part
  ops      : List WordOp
  gathered : Bytes8
  deriving DecidableEq, Repr

/-- A front channel: the offer on its request path, whether the hold-off shows "taken" (R47), whether CRSTm# is
asserted (R64), and the master's request serial counter (R50). -/
structure Channel where
  offer  : Option Offer
  taken  : Bool
  crst   : Bool
  serial : BitVec 8
  deriving DecidableEq, Repr

/-- The status of a reply (R58). -/
inductive ReplyStatus where
  | ok
  | unbound
  | unmapped
  | denied
  | check
  | memory
  | timeout
  deriving DecidableEq, Repr

/-- A reply (R58). -/
structure Reply where
  status : ReplyStatus
  posted : Bool
  data   : Bytes8
  deriving DecidableEq, Repr

/-! ## Posted Write Queue (chapter 6) -/

/-- The state of a PWQ entry (R96). -/
inductive EntryState where
  | queued
  | issued (t : TagNo)
  deriving DecidableEq, Repr

/-- A PWQ entry (Table 6-1). `id` is the model's own number for the entry (notes/assumptions/12.md). -/
structure Entry where
  id     : Nat
  master : Master
  serial : BitVec 8
  ctx    : Ctx
  addr   : LogAddr
  sizeM1 : BitVec 3
  label  : Label
  winIx  : WinIx
  gen    : BitVec 8
  word   : WordAddr
  mask   : Run
  data   : Bytes8
  work   : Work
  state  : EntryState
  deriving DecidableEq, Repr

/-! ## Back Port (chapter 7) -/

/-- What an orphan keeps beside its tag's word, kind and phase (R68). -/
structure Orphan where
  master : Master
  ctx    : Ctx
  winIx  : WinIx
  gen    : BitVec 8
  data   : Bytes8
  deriving DecidableEq, Repr

/-- The owner of a LIVE tag (R116). -/
inductive Owner where
  | request (m : Master) (label : Label)
  | pwqEntry
  | orphan (o : Orphan)
  deriving DecidableEq, Repr

/-- The fields of a LIVE tag (Table 7-1); `count` is the number of units its deadline count started with (R123). -/
structure LiveWork where
  word  : WordAddr
  work  : Work
  owner : Owner
  count : BitVec 8
  deriving DecidableEq, Repr

/-- The state of a tag (Table 7-1). -/
inductive TagState where
  | free
  | live (l : LiveWork)
  | quarantined (word : WordAddr)
  deriving DecidableEq, Repr

/-- A tag, with the word address of the last command sent on it (R116). -/
structure Tag where
  state    : TagState
  lastWord : WordAddr
  deriving DecidableEq, Repr

/-- A source of the arbiter (R118). -/
inductive Source where
  | master (m : Master)
  | pwq
  deriving DecidableEq, Repr

/-- The back-port state; a clear has its own deadline count (R130). -/
inductive BackState where
  | normal
  | clearing (count : BitVec 8)
  deriving DecidableEq, Repr

/-- The last-clear result (R133). -/
inductive LastClear where
  | none
  | done
  | failed
  deriving DecidableEq, Repr

/-- The Back Port (R116, R118, R122, R130, R133). -/
structure Port where
  tags      : Vector Tag 6
  back      : BackState
  deadline  : BitVec 8
  lastClear : LastClear
  pointer   : Source
  deriving DecidableEq, Repr

/-- A command to memory (R113). -/
inductive MemCommand where
  | read (t : TagNo) (word : WordAddr)
  | write (t : TagNo) (word : WordAddr) (data : Bytes8) (check : Byte)
  | clear
  deriving DecidableEq, Repr

/-! ## Drain Tracker (chapter 8) -/

/-- The target of a drain (R139). -/
inductive Target where
  | commit (c : Ctx) (w : WinIx)
  | bind (m : Master)
  deriving DecidableEq, Repr

/-- A drain in progress: kind and target, and for a COMMIT the replaced generation (R139). -/
inductive DrainJob where
  | commit (c : Ctx) (w : WinIx) (gen : BitVec 8)
  | bind (m : Master)
  deriving DecidableEq, Repr

/-- A member of the drain set (R141 to R143). A request member stands for the request while its record holds it
(`held`), then for the qualifying entries or orphans made from it. An orphan is named by the tag it holds. -/
inductive Member where
  | request (m : Master) (held : Bool) (entries : List Nat) (orphans : List TagNo)
  | entry (id : Nat)
  | orphan (t : TagNo)
  deriving DecidableEq, Repr

/-- The tracker state (R139). -/
inductive DrainState where
  | idle
  | draining (job : DrainJob) (members : List Member)
  deriving DecidableEq, Repr

/-- The Drain Tracker (R139); `last` is none, or the kind and target of the last drain completed. -/
structure Drain where
  state : DrainState
  last  : Option Target
  deriving DecidableEq, Repr

/-! ## Fault Log (chapter 9) -/

/-- The fault kinds (R153). -/
inductive FaultKind where
  | unbound
  | unmapped
  | denied
  | check
  | memory
  | timeout
  | posted
  | stray
  deriving DecidableEq, Repr

/-- The operation kind of a fault record (Table 9-4). -/
inductive OpKind where
  | read
  | write
  | rmw
  deriving DecidableEq, Repr

/-- The request fields of a fault record (Table 9-4). A context of none is the one of an UNBOUND record (R158). -/
structure ReqFields where
  master : Master
  ctx    : Option Ctx
  serial : BitVec 8
  dir    : ReqKind
  addr   : LogAddr
  sizeM1 : BitVec 3
  label  : Label
  deriving DecidableEq, Repr

/-- A fault as it is handed in: the fields of Table 9-4 but the sequence number; an absent field is none (Table 9-5). -/
structure FaultBody where
  kind   : FaultKind
  cause  : Option Cause
  req    : Option ReqFields
  winIx  : Option WinIx
  word   : Option WordAddr
  opKind : Option OpKind
  tag    : Option TagNo
  deriving DecidableEq, Repr

/-- A fault record (R156). -/
structure FaultRecord where
  seq  : BitVec 16
  body : FaultBody
  deriving DecidableEq, Repr

/-- The Fault Log: the records, oldest first, and the next sequence number (R159, R162). -/
structure FaultLog where
  records : List FaultRecord
  next    : BitVec 16
  deriving DecidableEq, Repr

/-! ## Maintenance Link (chapter 10) -/

/-- A response status (Table 10-2). -/
inductive RespStatus where
  | done
  | accepted
  | busy
  | range
  | badcmd
  | badlen
  | nostage
  | overlap
  | bounds
  | empty
  deriving DecidableEq, Repr

/-- A response: a status with its result bytes (R168). -/
structure Response where
  status : RespStatus
  result : List Byte
  deriving DecidableEq, Repr

/-- The MSEL# line and the period it began: deasserted; a period in progress, showing the buffer as it stood at the
assertion; or a period that PORST# abandoned or kept from starting, whose rest is ignored (R167, R168, R171). -/
inductive Period where
  | none
  | running (shown : Option Response)
  | ignored (shown : Option Response)
  deriving DecidableEq, Repr

/-- The Maintenance Link (R168, R171). -/
structure Link where
  buffer : Option Response
  period : Period
  deriving DecidableEq, Repr

/-- What MDO carried over a period: the complete bytes, and the bits that followed them (R168). -/
structure Mdo where
  bytes : List Byte
  bits  : List Bool
  deriving DecidableEq, Repr

/-! ## The whole part -/

/-- The messages the latest command sent: on the reply paths, on the command path, and on MDO
(notes/assumptions/11.md). -/
structure Out where
  replies : Vector (Option Reply) 4
  command : Option MemCommand
  mdo     : Option Mdo
  deriving DecidableEq, Repr

/-- The state of the part, and the queue of commands that wait. -/
structure State where
  windows   : WindowTable
  staging   : Staging
  bindings  : Vector (Option Ctx) 4
  streams   : Vector (Option StreamRec) 4
  waitList  : List Lookup
  engine    : Engine
  channels  : Vector Channel 4
  records   : Vector (Option Request) 4
  pwq       : List Entry
  nextEntry : Nat
  port      : Port
  drain     : Drain
  log       : FaultLog
  link      : Link
  porst     : Bool
  out       : Out
  pending   : List Instr
  deriving DecidableEq, Repr

/-- The window image after power-on reset (Table 1-2). -/
def Image.powerOn : Image :=
  { valid := false, start := 0, lenM1 := 0, base := 0, readOk := false, writeOk := false, posting := .strict }

/-- Nothing sent. -/
def Out.quiet : Out := { replies := Vector.replicate 4 none, command := none, mdo := none }

/-- The Back Port after power-on reset (R134). -/
def Port.powerOn : Port :=
  { tags := Vector.replicate 6 { state := .free, lastWord := 0 }
    back := .normal
    deadline := Config.powerOnDeadline
    lastClear := .none
    pointer := .pwq }

/-- The part after power-on reset, once PORST# is released, with its input lines at rest and nothing offered
(R10, R12, R29, R42, R50, R66, R110, R134, R136, R139, R166, R171; notes/assumptions/4.md). -/
def State.reset : State :=
  { windows :=
      { slots := Vector.replicate 8 (Vector.replicate 16 { image := Image.powerOn, gen := 0 })
        versions := Vector.replicate 8 0 }
    staging := { image := Image.powerOn, loaded := false }
    bindings := Vector.replicate 4 none
    streams := Vector.replicate 4 none
    waitList := []
    engine := .idle
    channels := Vector.replicate 4 { offer := none, taken := false, crst := false, serial := 0 }
    records := Vector.replicate 4 none
    pwq := []
    nextEntry := 0
    port := Port.powerOn
    drain := { state := .idle, last := none }
    log := { records := [], next := 0 }
    link := { buffer := none, period := .none }
    porst := false
    out := Out.quiet
    pending := [] }

end Sys2Proof.Machine
end

