-- ==== Sys2Proof/Machine/Flags.lean ====
section
/-! DEFINITION. The Check Unit's check byte (chapter 5) and the byte layouts of the maintenance link
(section 10.4), each as a plain function on bits. -/

namespace Sys2Proof.Machine

/-! ## Check byte -/

/-- The check byte of a word: the complement of the XOR of its eight bytes (R87). -/
def checkByte (d : Bytes8) : Byte :=
  ~~~ (d[0] ^^^ d[1] ^^^ d[2] ^^^ d[3] ^^^ d[4] ^^^ d[5] ^^^ d[6] ^^^ d[7])

/-- The answered check byte agrees with the answered data (R90). -/
def agrees (d : Bytes8) (check : Byte) : Bool := checkByte d == check

/-! ## Multi-byte fields, most significant byte first (section 10.4) -/

/-- The two bytes of a 16-bit field. -/
def bytes16 (x : BitVec 16) : List Byte := [x.extractLsb' 8 8, x.extractLsb' 0 8]

/-- The three bytes of a 24-bit field. -/
def bytes24 (x : BitVec 24) : List Byte := [x.extractLsb' 16 8, x.extractLsb' 8 8, x.extractLsb' 0 8]

/-- The four bytes of a 32-bit field. -/
def bytes32 (x : BitVec 32) : List Byte :=
  [x.extractLsb' 24 8, x.extractLsb' 16 8, x.extractLsb' 8 8, x.extractLsb' 0 8]

/-! ## Windows and streams as read (Tables 10-3 to 10-5) -/

/-- The posting bit: 1 POSTED, 0 STRICT (Table 10-3). -/
def postingBit : Posting → Bool
  | .posted => true
  | .strict => false

/-- The posting mode of a posting bit (Table 10-3). -/
def postingOf (b : Bool) : Posting := if b then .posted else .strict

/-- The flag byte: valid, read, write, posting in bits 7 to 4, bits 3 to 0 zero (Tables 10-3, 10-4). -/
def flagByte (valid readOk writeOk : Bool) (posting : Posting) : Byte :=
  BitVec.ofBool valid ++ BitVec.ofBool readOk ++ BitVec.ofBool writeOk ++ BitVec.ofBool (postingBit posting) ++ 0#4

/-- Bytes 1 to 9 of a window record as read (Table 10-4). -/
def windowBytes (w : Window) : List Byte :=
  [flagByte w.image.valid w.image.readOk w.image.writeOk w.image.posting] ++ bytes16 w.image.start ++
    bytes16 w.image.lenM1 ++ bytes24 w.image.base ++ [w.gen]

/-- Bytes 1 to 10 of a stream record as read; a present record names a valid window (R176, Table 10-5). -/
def streamBytes : Option StreamRec → List Byte
  | none => List.replicate 10 0
  | some r =>
    [1#1 ++ BitVec.ofNat 3 r.ctx.val ++ BitVec.ofNat 4 r.win.index.val] ++
      [flagByte true r.win.readOk r.win.writeOk r.win.posting] ++ bytes16 r.win.start ++ bytes16 r.win.lenM1 ++
      bytes24 r.win.base ++ [r.win.gen]

/-- The image a STAGE frame's eight argument bytes carry; bits 3 to 0 of the flag byte are ignored (Table 10-3). -/
def stagedImage (flags s1 s0 l1 l0 b2 b1 b0 : Byte) : Image :=
  { valid := flags.getLsbD 7
    start := s1 ++ s0
    lenM1 := l1 ++ l0
    base := b2 ++ b1 ++ b0
    readOk := flags.getLsbD 6
    writeOk := flags.getLsbD 5
    posting := postingOf (flags.getLsbD 4) }

/-! ## Status codes and responses (Table 10-2) -/

/-- The code of a response status (Table 10-2). -/
def statusCode : RespStatus → Byte
  | .done => 0x01
  | .accepted => 0x02
  | .busy => 0x03
  | .range => 0x04
  | .badcmd => 0x05
  | .badlen => 0x06
  | .nostage => 0x07
  | .overlap => 0x08
  | .bounds => 0x09
  | .empty => 0x0A

/-- The bytes MDO gives for the buffer: the status and its result bytes; an empty buffer shows EMPTY (R168). -/
def responseBytes : Option Response → List Byte
  | none => [statusCode .empty]
  | some r => statusCode r.status :: r.result

/-- Byte i of MDO in a period that shows the given buffer: 00h after the response (R168). -/
def mdoByte (shown : Option Response) (i : Nat) : Byte := (responseBytes shown).getD i 0

/-- What MDO carries over a period of `bytes` complete bytes and `tail` further bits, most significant bit first
(R167, R168). -/
def mdoOver (shown : Option Response) (bytes tail : Nat) : Mdo :=
  { bytes := (List.range bytes).map (mdoByte shown)
    bits := (List.range tail).map fun j => (mdoByte shown bytes).getMsbD j }

/-! ## Fault record as returned (Table 10-6) -/

/-- The kind code, byte 3 bits 7 to 4 (Table 10-6). -/
def kindCode : FaultKind → BitVec 4
  | .unbound => 1
  | .unmapped => 2
  | .denied => 3
  | .check => 4
  | .memory => 5
  | .timeout => 6
  | .posted => 7
  | .stray => 8

/-- The cause code, byte 3 bits 3 to 2 (Table 10-6). -/
def causeCode : Option Cause → BitVec 2
  | none => 0
  | some .check => 1
  | some .memory => 2
  | some .timeout => 3

/-- The direction bit (Table 10-6). -/
def dirBit : ReqKind → BitVec 1
  | .read => 0
  | .write => 1

/-- The part code (Table 10-6). -/
def labelCode : Label → BitVec 2
  | .only => 0
  | .first => 1
  | .second => 2

/-- The operation kind code (Table 10-6). -/
def opKindCode : OpKind → BitVec 2
  | .read => 0
  | .write => 1
  | .rmw => 2

/-- The context nibble: 0 to 7, or Fh for none (Table 10-6). -/
def ctxNibble : Option Ctx → BitVec 4
  | none => 0xF
  | some c => BitVec.ofNat 4 c.val

/-- The presence byte, byte 4 (R177). -/
def presenceByte (b : FaultBody) : Byte :=
  BitVec.ofBool b.req.isSome ++ BitVec.ofBool b.winIx.isSome ++ BitVec.ofBool b.word.isSome ++
    BitVec.ofBool b.opKind.isSome ++ BitVec.ofBool b.tag.isSome ++ 0#3

/-- Byte 5: master, direction, part, size minus one (Table 10-6). -/
def requestByte : Option ReqFields → Byte
  | none => 0
  | some r => BitVec.ofNat 2 r.master.val ++ dirBit r.dir ++ labelCode r.label ++ r.sizeM1

/-- Byte 6: context and window index (Table 10-6). -/
def contextByte (req : Option ReqFields) (winIx : Option WinIx) : Byte :=
  (match req with
    | none => 0#4
    | some r => ctxNibble r.ctx) ++
  (match winIx with
    | none => 0#4
    | some w => BitVec.ofNat 4 w.val)

/-- Byte 11: operation kind and tag (Table 10-6). -/
def operationByte (opKind : Option OpKind) (tag : Option TagNo) : Byte :=
  (match opKind with
    | none => 0#2
    | some k => opKindCode k) ++ 0#3 ++
  (match tag with
    | none => 0#3
    | some t => BitVec.ofNat 3 t.val)

/-- Bytes 1 to 15 of a fault record as returned; an absent field reads zero (R177, Table 10-6). -/
def faultBytes (r : FaultRecord) : List Byte :=
  bytes16 r.seq ++
    [kindCode r.body.kind ++ causeCode r.body.cause ++ 0#2, presenceByte r.body, requestByte r.body.req,
      contextByte r.body.req r.body.winIx, (r.body.req.map (·.serial)).getD 0] ++
    bytes24 ((r.body.req.map (·.addr)).getD 0) ++
    [operationByte r.body.opKind r.body.tag] ++
    bytes32 (((r.body.word).getD 0).setWidth 32)

/-! ## STATUS (Table 10-7) -/

/-- The two bits of a tag state (Table 10-7). -/
def tagBits : TagState → BitVec 2
  | .free => 0
  | .live _ => 1
  | .quarantined _ => 2

/-- The target byte of a drain or of the last result (Table 10-7, byte 5). -/
def targetByte : Target → Byte
  | .commit c w => 0#1 ++ BitVec.ofNat 3 c.val ++ BitVec.ofNat 4 w.val
  | .bind m => 0#6 ++ BitVec.ofNat 2 m.val

/-- The target of a drain in progress (R139). -/
def DrainJob.target : DrainJob → Target
  | .commit c w _ => .commit c w
  | .bind m => .bind m

/-- The kind bit of a target: 0 COMMIT, 1 BIND (Table 10-7). -/
def targetKindBit : Target → BitVec 1
  | .commit _ _ => 0
  | .bind _ => 1

/-- Bytes 4 and 5: tracker state, kind, members remaining, target (Table 10-7). -/
def trackerBytes : DrainState → List Byte
  | .idle => [0, 0]
  | .draining job members =>
    [1#1 ++ targetKindBit job.target ++ 0#1 ++ BitVec.ofNat 5 members.length, targetByte job.target]

/-- Bytes 6 and 7: the last result and its target (Table 10-7). -/
def lastResultBytes : Option Target → List Byte
  | none => [0, 0]
  | some (.commit c w) => [1#2 ++ 0#6, targetByte (.commit c w)]
  | some (.bind m) => [2#2 ++ 0#6, targetByte (.bind m)]

/-- Byte 8: back-port state and last-clear result (Table 10-7). -/
def backByte (b : BackState) (l : LastClear) : Byte :=
  (match b with
    | .normal => 0#1
    | .clearing _ => 1#1) ++ 0#5 ++
  (match l with
    | .none => 0#2
    | .done => 1#2
    | .failed => 2#2)

/-- Bytes 9 and 10: the tag states (Table 10-7). -/
def tagStateBytes (tags : Vector Tag 6) : List Byte :=
  [tagBits tags[0].state ++ tagBits tags[1].state ++ tagBits tags[2].state ++ tagBits tags[3].state,
    tagBits tags[4].state ++ tagBits tags[5].state ++ 0#4]

/-- Bytes 1 to 12 of the STATUS response (R172, Table 10-7). -/
def statusBytes (s : State) : List Byte :=
  [BitVec.ofNat 8 s.log.records.length] ++ bytes16 s.log.next ++ trackerBytes s.drain.state ++
    lastResultBytes s.drain.last ++ [backByte s.port.back s.port.lastClear] ++ tagStateBytes s.port.tags ++
    [BitVec.ofNat 8 s.pwq.length, s.port.deadline]

end Sys2Proof.Machine
end

