-- ==== Sys2Proof/Machine/Operands.lean ====
section
/-! DEFINITION. The arithmetic of an access: granules and parts (chapter 2), word operations, masks and lanes
(chapter 4). Pure functions of the operands; no state is read here. -/

namespace Sys2Proof.Machine

/-! ## Granules (R1, R23) -/

/-- The size of a request, 1 to 8 (R46). -/
def sizeOf (sizeM1 : BitVec 3) : Nat := sizeM1.toNat + 1

/-- The first granule of an access (R23). -/
def granule1 (a : LogAddr) : Nat := a.toNat / 256

/-- The last granule of an access, computed without wrapping: 0 to 65536 (R23). -/
def granule2 (a : LogAddr) (sizeM1 : BitVec 3) : Nat := (a.toNat + sizeM1.toNat) / 256

/-- The last granule of a run (R3). -/
def lastGranule (start lenM1 : BitVec 16) : Nat := start.toNat + lenM1.toNat

/-- A run of granules contains granule g (R3). -/
def runCovers (start lenM1 : BitVec 16) (g : Nat) : Bool :=
  decide (start.toNat ≤ g) && decide (g ≤ lastGranule start lenM1)

/-- A search finds this image for granule g: it is valid and its run contains g (R37). -/
def Image.covers (i : Image) (g : Nat) : Bool := i.valid && runCovers i.start i.lenM1 g

/-- Two runs share a granule (R17). -/
def runsShare (s l s' l' : BitVec 16) : Bool :=
  decide (s.toNat < s'.toNat + (l'.toNat + 1)) && decide (s'.toNat < s.toNat + (l.toNat + 1))

/-- The image runs past the end of the logical or the physical space (R16). -/
def Image.outOfBounds (i : Image) : Bool :=
  decide (65536 < i.start.toNat + (i.lenM1.toNat + 1)) || decide (16777216 < i.base.toNat + (i.lenM1.toNat + 1))

/-! ## Window copies and rights (R27, R28) -/

/-- The copy of slot w's record that a translation takes (R27). -/
def Window.copy (w : Window) (i : WinIx) : WinCopy :=
  { index := i, gen := w.gen, start := w.image.start, lenM1 := w.image.lenM1, base := w.image.base,
    readOk := w.image.readOk, writeOk := w.image.writeOk, posting := w.image.posting }

/-- The rights check (R28). -/
def WinCopy.permits (w : WinCopy) : ReqKind → Bool
  | .read => w.readOk
  | .write => w.writeOk

/-! ## Parts (R24, R26) -/

/-- The label of a first lookup (R24). -/
def firstLabel (a : LogAddr) (sizeM1 : BitVec 3) : Label :=
  if granule2 a sizeM1 = granule1 a then .only else .first

/-- The label a first lookup resolves to, by the window found for g1, if any (R24, R25). -/
def resolvedLabel (a : LogAddr) (sizeM1 : BitVec 3) (found : Option WinCopy) : Label :=
  if granule2 a sizeM1 = granule1 a then .only
  else
    match found with
    | none => .first
    | some w =>
      if granule2 a sizeM1 ≠ 65536 ∧ granule2 a sizeM1 ≤ lastGranule w.start w.lenM1 then .only else .first

/-- The number of bytes before the granule boundary that a two-part access crosses (R26). -/
def bytesBefore (a : LogAddr) : Nat := (granule1 a + 1) * 256 - a.toNat

/-- The lanes of a part (R26). -/
def partLanes (label : Label) (a : LogAddr) (sizeM1 : BitVec 3) : Run :=
  match label with
  | .only => ⟨0, sizeOf sizeM1⟩
  | .first => ⟨0, bytesBefore a⟩
  | .second => ⟨bytesBefore a, sizeOf sizeM1 - bytesBefore a⟩

/-- The logical address of a part's first byte (R27). -/
def partAddr (label : Label) (a : LogAddr) : Nat :=
  match label with
  | .only => a.toNat
  | .first => a.toNat
  | .second => (granule1 a + 1) * 256

/-- The physical address of logical address x through a window copy (R3, R27). -/
def physAddr (w : WinCopy) (x : Nat) : Nat := w.base.toNat * 256 + (x - w.start.toNat * 256)

/-- The word address of a part's first byte (R27; notes/assumptions/21.md). -/
def partWord (w : WinCopy) (label : Label) (a : LogAddr) : WordAddr :=
  BitVec.ofNat 29 (physAddr w (partAddr label a) / 8)

/-! ## Word operations of a part (R67, R71) -/

/-- A word operation's place: how many words after the part's word, its byte mask and its lanes. -/
structure OpShape where
  offset : Nat
  mask   : Run
  lanes  : Run
  deriving DecidableEq, Repr

/-- The word operations a part yields, the one that carries its lowest lane first (R67, R71). -/
def opShapes (label : Label) (a : LogAddr) (sizeM1 : BitVec 3) : List OpShape :=
  let p := a.toNat % 8
  let n := sizeOf sizeM1
  let k := bytesBefore a
  match label with
  | .only =>
    if p + n ≤ 8 then [⟨0, ⟨p, n⟩, ⟨0, n⟩⟩]
    else [⟨0, ⟨p, 8 - p⟩, ⟨0, 8 - p⟩⟩, ⟨1, ⟨0, p + n - 8⟩, ⟨8 - p, p + n - 8⟩⟩]
  | .first => [⟨0, ⟨p, k⟩, ⟨0, k⟩⟩]
  | .second => [⟨0, ⟨0, n - k⟩, ⟨k, n - k⟩⟩]

/-- The word addresses of a part (R67). -/
def partWords (w : WinCopy) (label : Label) (a : LogAddr) (sizeM1 : BitVec 3) : List WordAddr :=
  (opShapes label a sizeM1).map fun sh => partWord w label a + BitVec.ofNat 29 sh.offset

/-- The kind of a word operation; an RMW is made in its read phase (R68, R69). -/
def workOf (kind : ReqKind) (mask : Run) : Work :=
  match kind with
  | .read => .read
  | .write => if mask.len = 8 then .write else .rmw .readPhase

/-! ## Lanes and byte positions (R70, R71, R81, R84) -/

/-- i lies in the run. -/
def Run.has (r : Run) (i : Nat) : Bool := decide (r.lo ≤ i) && decide (i < r.lo + r.len)

/-- Byte i of eight; 00h outside 0 to 7. -/
def byteAt (v : Bytes8) (i : Nat) : Byte := if h : i < 8 then v[i] else 0

/-- The lanes a WRITE records: lanes 0 to size − 1, the others 00h (R46; notes/assumptions/13.md). -/
def recordedLanes (kind : ReqKind) (sizeM1 : BitVec 3) (lanes : Bytes8) : Bytes8 :=
  match kind with
  | .read => Bytes8.zero
  | .write => Vector.ofFn fun i : Fin 8 => if i.val < sizeOf sizeM1 then lanes[i] else 0

/-- Lanes to positions: the lane bytes at the positions of the mask, 00h elsewhere (R70, R71; notes/assumptions/13.md). -/
def placeLanes (mask lanes : Run) (v : Bytes8) : Bytes8 :=
  Vector.ofFn fun p : Fin 8 => if mask.has p.val then byteAt v (lanes.lo + (p.val - mask.lo)) else 0

/-- The merged word of an RMW: the operation's bytes in the mask, the word read elsewhere (R81). -/
def mergeWord (mask : Run) (data old : Bytes8) : Bytes8 :=
  Vector.ofFn fun p : Fin 8 => if mask.has p.val then data[p] else old[p]

/-- Positions to lanes: the word's bytes at the mask placed on the operation's lanes (R70, R84). -/
def gatherLanes (mask lanes : Run) (word acc : Bytes8) : Bytes8 :=
  Vector.ofFn fun i : Fin 8 => if lanes.has i.val then byteAt word (mask.lo + (i.val - lanes.lo)) else acc[i]

/-- The read data of an OK READ reply: the gathered lanes 0 to size − 1, 00h beyond (R58, R60). -/
def replyLanes (sizeM1 : BitVec 3) (gathered : Bytes8) : Bytes8 :=
  Vector.ofFn fun i : Fin 8 => if i.val < sizeOf sizeM1 then gathered[i] else 0

/-! ## The operations of a part and of a request -/

/-- The word operations of a translated part, PENDING, with empty snapshots (R67, R68). -/
def partOps (r : Request) (p : Part) : List WordOp :=
  match p.copy with
  | none => []
  | some w =>
    (opShapes p.label r.addr r.sizeM1).map fun sh =>
      { label := p.label, ctx := r.ctx, winIx := w.index, gen := w.gen
        word := partWord w p.label r.addr + BitVec.ofNat 29 sh.offset
        mask := sh.mask, lanes := sh.lanes
        data := (match r.kind with
          | .read => Bytes8.zero
          | .write => placeLanes sh.mask sh.lanes r.data)
        work := workOf r.kind sh.mask
        state := .pending
        snapshot := p.snapshot }

/-- The parts of a request, the lower-addressed first. -/
def Request.parts (r : Request) : List Part := r.part1 :: r.part2.toList

/-- The word operations of a request whose parts are all TRANSLATED, the one that carries lane 0 first (R67). -/
def requestOps (r : Request) : List WordOp := r.parts.flatMap (partOps r)

/-! ## Kinds and phases -/

/-- The kind of an operation for a fault record: RMW in either phase (R158). -/
def Work.kind : Work → OpKind
  | .read => .read
  | .write => .write
  | .rmw _ => .rmw

/-- The reply status of a failure at memory or readiness (R58). -/
def Cause.replyStatus : Cause → ReplyStatus
  | .check => .check
  | .memory => .memory
  | .timeout => .timeout

/-- The fault kind of a failure of a request's operation (R153). -/
def Cause.faultKind : Cause → FaultKind
  | .check => .check
  | .memory => .memory
  | .timeout => .timeout

/-! ## The status of parts and of the reply (R59, R85) -/

/-- The status a part takes from its operations: that of the lowest-laned failed one, or OK (R85). -/
def opsStatus (ops : List WordOp) : ReplyStatus :=
  match ops.findSome? (fun o =>
      match o.state with
      | .done (.failed c) _ => some c
      | .done .ok _ => none
      | .pending => none
      | .issued _ => none) with
  | some c => c.replyStatus
  | none => .ok

/-- The final status of a part (R59). -/
def partFinal (r : Request) (p : Part) : ReplyStatus :=
  match p.status with
  | .denied => .denied
  | .unmapped => .unmapped
  | .translated => opsStatus (r.ops.filter (·.label = p.label))
  | .waiting => opsStatus (r.ops.filter (·.label = p.label))

/-- The reply status: that of the lower-addressed failed part, or OK (R59). -/
def replyStatus (r : Request) : ReplyStatus :=
  match partFinal r r.part1, r.part2 with
  | .ok, some p => partFinal r p
  | st, _ => st

/-- The reply of a request that is not posted (R58 to R60). -/
def composeReply (r : Request) : Reply :=
  { status := replyStatus r
    posted := false
    data := if r.kind = .read ∧ replyStatus r = .ok then replyLanes r.sizeM1 r.gathered else Bytes8.zero }

end Sys2Proof.Machine
end

