-- ==== Sys2Proof/Machine/Ops.lean ====
section
/-! DEFINITION. The shared operations on the state: accessors and updates, handing a fault to the log, the drain set,
leaving the PWQ, failures under a quarantine, and the course of a request from translation to its reply. -/

namespace Sys2Proof.Machine

/-! ## Accessors and updates -/

/-- Every command begins with nothing sent (notes/assumptions/11.md). -/
def State.beginEvent (s : State) : State := { s with out := Out.quiet }

/-- The window record of slot c.w. -/
def State.slot (s : State) (c : Ctx) (w : WinIx) : Window := (s.windows.slots[c])[w]

/-- The context version of c. -/
def State.version (s : State) (c : Ctx) : BitVec 8 := s.windows.versions[c]

/-- Front channel m. -/
def State.channel (s : State) (m : Master) : Channel := s.channels[m]

/-- Request record m: none in IDLE. -/
def State.record (s : State) (m : Master) : Option Request := s.records[m]

/-- Stream record m: none when absent. -/
def State.stream (s : State) (m : Master) : Option StreamRec := s.streams[m]

/-- The binding of m: none, or a context. -/
def State.binding (s : State) (m : Master) : Option Ctx := s.bindings[m]

/-- Tag t. -/
def State.tag (s : State) (t : TagNo) : Tag := s.port.tags[t]

def State.setChannel (s : State) (m : Master) (c : Channel) : State := { s with channels := s.channels.set m c }

def State.setRecord (s : State) (m : Master) (r : Option Request) : State := { s with records := s.records.set m r }

def State.setStream (s : State) (m : Master) (r : Option StreamRec) : State := { s with streams := s.streams.set m r }

def State.setBinding (s : State) (m : Master) (c : Option Ctx) : State := { s with bindings := s.bindings.set m c }

def State.setTag (s : State) (t : TagNo) (g : Tag) : State :=
  { s with port := { s.port with tags := s.port.tags.set t g } }

/-- The reply path of channel m carries r in this event (R58). -/
def State.sendReply (s : State) (m : Master) (r : Reply) : State :=
  { s with out := { s.out with replies := s.out.replies.set m (some r) } }

/-- The command path carries c in this event (R113). -/
def State.sendCommand (s : State) (c : MemCommand) : State := { s with out := { s.out with command := some c } }

/-- ALERT# is asserted: the log holds a record (R163). -/
def State.alert (s : State) : Bool := !s.log.records.isEmpty

/-- The members remaining (R139). -/
def State.membersRemaining (s : State) : Nat :=
  match s.drain.state with
  | .idle => 0
  | .draining _ members => members.length

/-! ## Word holds (R117) -/

/-- The word a tag holds, LIVE or QUARANTINED (R116). -/
def TagState.holds : TagState → Option WordAddr
  | .free => none
  | .live l => some l.word
  | .quarantined w => some w

/-- A tag, LIVE or QUARANTINED, holds the word (R72 condition 4, R99 condition 2). -/
def State.wordHeld (s : State) (w : WordAddr) : Bool := tagNos.any fun t => (s.tag t).state.holds == some w

/-- The QUARANTINED tag that holds the word, if there is one (R74, R101). -/
def State.quarantinedBy (s : State) (w : WordAddr) : Option TagNo :=
  tagNos.find? fun t => (s.tag t).state == .quarantined w

/-- A tag is LIVE (R129). -/
def TagState.isLive : TagState → Bool
  | .free => false
  | .live _ => true
  | .quarantined _ => false

/-- Any tag is LIVE (R129). -/
def State.anyLive (s : State) : Bool := tagNos.any fun t => (s.tag t).state.isLive

/-- Tag t becomes FREE and its word is released; the last word stays (R116, R125). -/
def State.freeTag (s : State) (t : TagNo) : State := s.setTag t { s.tag t with state := .free }

/-- A command is sent on tag t: the tag is LIVE with this work, its last word is the command's word, and its count
starts at the current deadline value (R81, R120, R123). -/
def State.startTag (s : State) (t : TagNo) (word : WordAddr) (work : Work) (owner : Owner) : State :=
  s.setTag t { state := .live { word := word, work := work, owner := owner, count := s.port.deadline }
               lastWord := word }

/-! ## The Fault Log (R159, R162) -/

/-- The distance of a sequence number from another, counted modulo 65536 (R162). -/
def seqDistance (n o : BitVec 16) : Nat := (n - o).toNat

/-- The conditions of room and span (R162). -/
def FaultLog.accepts (l : FaultLog) : Bool :=
  decide (l.records.length < Config.logCapacity) &&
  (match l.records.head?, l.records.getLast? with
    | some oldest, some newest => decide (seqDistance newest.seq oldest.seq < seqDistance l.next oldest.seq)
    | _, _ => true)

/-- A fault is handed in: it takes the next number, and is stored at the tail or discarded (R159, R162). -/
def FaultLog.handIn (l : FaultLog) (b : FaultBody) : FaultLog :=
  { records := if l.accepts then l.records ++ [{ seq := l.next, body := b }] else l.records
    next := l.next + 1 }

/-- A fault is handed to the Fault Log. -/
def State.handIn (s : State) (b : FaultBody) : State := { s with log := s.log.handIn b }

/-- Several faults of one event are handed in, in their order (R160). -/
def State.handInAll (s : State) (bs : List FaultBody) : State := bs.foldl State.handIn s

/-- The request fields of a record for a part of a held request (R156). -/
def reqFields (m : Master) (r : Request) (label : Label) : ReqFields :=
  { master := m, ctx := some r.ctx, serial := r.serial, dir := r.kind, addr := r.addr, sizeM1 := r.sizeM1
    label := label }

/-- The record of an UNBOUND request: context none, part ONLY (R51, R158). -/
def unboundFault (m : Master) (serial : BitVec 8) (o : Offer) : FaultBody :=
  { kind := .unbound, cause := none
    req := some { master := m, ctx := none, serial := serial, dir := o.kind, addr := o.addr, sizeM1 := o.sizeM1
                  label := .only }
    winIx := none, word := none, opKind := none, tag := none }

/-- The record of an UNMAPPED part (R44, R157). -/
def unmappedFault (m : Master) (r : Request) (label : Label) : FaultBody :=
  { kind := .unmapped, cause := none, req := some (reqFields m r label), winIx := none, word := none
    opKind := none, tag := none }

/-- The record of a DENIED part: it names the window and no word (R28, R157). -/
def deniedFault (m : Master) (r : Request) (label : Label) (w : WinIx) : FaultBody :=
  { kind := .denied, cause := none, req := some (reqFields m r label), winIx := some w, word := none
    opKind := none, tag := none }

/-- The record of a failed word operation of a request, with the tag concerned (R74, R78 to R82, R157). -/
def opFault (m : Master) (r : Request) (o : WordOp) (c : Cause) (t : TagNo) : FaultBody :=
  { kind := c.faultKind, cause := none, req := some (reqFields m r o.label), winIx := some o.winIx
    word := some o.word, opKind := some o.work.kind, tag := some t }

/-- The POSTED record of a failed entry (R105). -/
def postedFault (e : Entry) (c : Cause) (t : TagNo) : FaultBody :=
  { kind := .posted, cause := some c
    req := some { master := e.master, ctx := some e.ctx, serial := e.serial, dir := .write, addr := e.addr
                  sizeM1 := e.sizeM1, label := e.label }
    winIx := some e.winIx, word := some e.word, opKind := some e.work.kind, tag := some t }

/-- The record of a stray answer: the tag named and its last word (R127). -/
def strayFault (t : TagNo) (lastWord : WordAddr) : FaultBody :=
  { kind := .stray, cause := none, req := none, winIx := none, word := some lastWord, opKind := none, tag := some t }

/-! ## The drain set (R141 to R145) -/

/-- Work of master m that carries this context, window index and generation belongs to the drain (R141, R142). -/
def DrainJob.matchesWork (job : DrainJob) (m : Master) (ctx : Ctx) (winIx : WinIx) (gen : BitVec 8) : Bool :=
  match job with
  | .commit c w g => decide (ctx = c) && decide (winIx = w) && decide (gen = g)
  | .bind m' => decide (m = m')

/-- A member that stands for nothing any more leaves (R143). -/
def Member.settled : Member → Option Member
  | .request m held entries orphans =>
    if !held && entries.isEmpty && orphans.isEmpty then none else some (.request m held entries orphans)
  | .entry id => some (.entry id)
  | .orphan t => some (.orphan t)

/-- The request held in record m has replied, not by posting (R143). -/
def Member.afterReply (m : Master) : Member → Option Member
  | .request m' true entries orphans => if m' = m then none else some (.request m' true entries orphans)
  | x => some x

/-- The request held in record m has been posted as these qualifying entries (R143). -/
def Member.afterPosting (m : Master) (ids : List Nat) : Member → Option Member
  | .request m' true entries orphans =>
    if m' = m then (Member.request m' false ids []).settled else some (.request m' true entries orphans)
  | x => some x

/-- The request held in record m has been abandoned, with these qualifying orphans (R143). -/
def Member.afterAbandonment (m : Master) (tags : List TagNo) : Member → Option Member
  | .request m' true entries orphans =>
    if m' = m then (Member.request m' false [] tags).settled else some (.request m' true entries orphans)
  | x => some x

/-- An entry has left the PWQ (R144). -/
def Member.afterEntry (id : Nat) : Member → Option Member
  | .entry id' => if id' = id then none else some (.entry id')
  | .request m held entries orphans => (Member.request m held (entries.filter (· ≠ id)) orphans).settled
  | .orphan t => some (.orphan t)

/-- The orphan on tag t has ended (R144). -/
def Member.afterOrphan (t : TagNo) : Member → Option Member
  | .orphan t' => if t' = t then none else some (.orphan t')
  | .request m held entries orphans => (Member.request m held entries (orphans.filter (· ≠ t))).settled
  | .entry id => some (.entry id)

/-- Members leave or change by f; when the last one leaves, the drain completes (R145). -/
def Drain.update (d : Drain) (f : DrainJob → Member → Option Member) : Drain :=
  match d.state with
  | .idle => d
  | .draining job members =>
    match members.filterMap (f job) with
    | [] => { state := .idle, last := some job.target }
    | x :: rest => { d with state := .draining job (x :: rest) }

/-- The drain set is told of an event (R145). -/
def State.drainUpdate (s : State) (f : DrainJob → Member → Option Member) : State :=
  { s with drain := s.drain.update f }

/-- A drain begins with these members: DRAINING, or complete at once when there is none (R140). -/
def State.beginDrain (s : State) (job : DrainJob) (members : List Member) : State :=
  { s with drain :=
      match members with
      | [] => { state := .idle, last := some job.target }
      | x :: rest => { s.drain with state := .draining job (x :: rest) } }

/-- The request in record m is a member of the drain: for a COMMIT, a part of it holds a copy of the replaced window;
for a BIND of m, any request (R141, R142). -/
def DrainJob.takesRequest (job : DrainJob) (m : Master) (r : Request) : Bool :=
  match job with
  | .bind m' => decide (m = m')
  | .commit c w g =>
    r.parts.any fun p =>
      match p.copy with
      | none => false
      | some x => decide (r.ctx = c) && decide (x.index = w) && decide (x.gen = g)

/-- The items that stand in the part and belong to the drain: requests, then entries, then orphans (R141, R142). -/
def State.drainMembers (s : State) (job : DrainJob) : List Member :=
  (masters.filterMap fun m =>
    match s.record m with
    | none => none
    | some r => if job.takesRequest m r then some (Member.request m true [] []) else none) ++
  (s.pwq.filterMap fun e =>
    if job.matchesWork e.master e.ctx e.winIx e.gen then some (Member.entry e.id) else none) ++
  (tagNos.filterMap fun t =>
    match (s.tag t).state with
    | .live { owner := .orphan o, .. } =>
      if job.matchesWork o.master o.ctx o.winIx o.gen then some (Member.orphan t) else none
    | _ => none)

/-! ## Leaving the PWQ and failures at its head (R101, R104) -/

/-- An operation's snapshot without entry id (R73). -/
def WordOp.forget (id : Nat) (o : WordOp) : WordOp := { o with snapshot := o.snapshot.filter (· ≠ id) }

/-- A part's snapshot without entry id (R73). -/
def Part.forget (id : Nat) (p : Part) : Part := { p with snapshot := p.snapshot.filter (· ≠ id) }

/-- A request's snapshots without entry id (R73). -/
def Request.forget (id : Nat) (r : Request) : Request :=
  { r with part1 := r.part1.forget id, part2 := r.part2.map (Part.forget id), ops := r.ops.map (WordOp.forget id) }

/-- An entry leaves the PWQ: its place, every snapshot that holds it, and the drain set (R104). -/
def State.leaveEntry (s : State) (id : Nat) : State :=
  { s with
    pwq := s.pwq.filter (·.id ≠ id)
    records := Vector.ofFn fun m : Master => (s.record m).map (Request.forget id)
    drain := s.drain.update fun _ => Member.afterEntry id }

/-- An entry fails: a POSTED record, and it leaves (R104, R105). -/
def State.failEntry (s : State) (e : Entry) (c : Cause) (t : TagNo) : State :=
  (s.handIn (postedFault e c t)).leaveEntry e.id

/-- The oldest QUEUED entry (R99). -/
def State.oldestQueued (s : State) : Option Entry := s.pwq.find? fun e => e.state == .queued

/-- The oldest QUEUED entry fails while its word is held by a QUARANTINED tag, and so on for the entry that becomes
the oldest after it; at most n entries (R101). -/
def settleHeadUpTo : Nat → State → State
  | 0, s => s
  | n + 1, s =>
    match s.oldestQueued with
    | none => s
    | some e =>
      match s.quarantinedBy e.word with
      | none => s
      | some t => settleHeadUpTo n (s.failEntry e .timeout t)

/-- The head of the PWQ is judged against the quarantine (R101). -/
def State.settleHead (s : State) : State := settleHeadUpTo s.pwq.length s

/-! ## Replies (R58 to R61) -/

/-- The request in record m replies, not by posting, and the record returns to IDLE (R61). -/
def State.replyRequest (s : State) (m : Master) (r : Reply) : State :=
  ((s.sendReply m r).setRecord m none).drainUpdate fun _ => Member.afterReply m

/-- The operation has completed or failed. -/
def OpState.isDone : OpState → Bool
  | .pending => false
  | .issued _ => false
  | .done _ _ => true

/-- Every operation of a request in HELD or ACTIVE is complete (R54, R55). -/
def Request.finished (r : Request) : Bool :=
  match r.state with
  | .lookup => false
  | .held => r.ops.all (·.state.isDone)
  | .active => r.ops.all (·.state.isDone)

/-- When the last operation of the request in record m is DONE, the reply is composed and sent (R54, R55). -/
def State.finishRequest (s : State) (m : Master) : State :=
  match s.record m with
  | none => s
  | some r => if r.finished then s.replyRequest m (composeReply r) else s

/-! ## Failure at readiness (R74) -/

/-- The QUARANTINED tag for which a PENDING operation fails TIMEOUT (R74). -/
def State.failsAtReadiness (s : State) (o : WordOp) : Option TagNo :=
  if o.state = .pending then s.quarantinedBy o.word else none

/-- A PENDING operation whose word is quarantined is DONE with TIMEOUT, naming the quarantined tag (R74). -/
def State.timeoutOp (s : State) (o : WordOp) : WordOp :=
  match s.failsAtReadiness o with
  | none => o
  | some t => { o with state := .done (.failed .timeout) (some t) }

/-- The records of the operations of r that fail at readiness, the one that carries lane 0 first (R74, R160). -/
def State.readinessFaults (s : State) (m : Master) (r : Request) : List FaultBody :=
  r.ops.filterMap fun o => (s.failsAtReadiness o).map (opFault m r o .timeout)

/-- The PENDING operations of record m whose words are quarantined fail TIMEOUT (R74), and the request replies when
that was its last (R54, R55). -/
def State.judgeReadiness (s : State) (m : Master) : State :=
  match s.record m with
  | none => s
  | some r =>
    ((s.handInAll (s.readinessFaults m r)).setRecord m
      (some { r with ops := r.ops.map s.timeoutOp })).finishRequest m

/-! ## From translation to HELD, or to the PWQ (R43, R54, R56, R57) -/

/-- An operation's own snapshot: of its part's, the entries for its word (R73). -/
def State.opSnapshot (s : State) (o : WordOp) : WordOp :=
  { o with snapshot := o.snapshot.filter fun id => s.pwq.any fun e => e.id == id && e.word == o.word }

/-- The translated request r of master m enters HELD: its word operations are made, and those whose words are
quarantined fail at once (R54, R67, R74). -/
def State.holdRequest (s : State) (m : Master) (r : Request) : State :=
  (s.setRecord m (some { r with
    state := .held
    ops := (requestOps r).map s.opSnapshot
    gathered := Bytes8.zero })).judgeReadiness m

/-- The entry made from a word operation of a posted WRITE, with its number (R57, R96). -/
def entryOf (m : Master) (r : Request) (id : Nat) (o : WordOp) : Entry :=
  { id := id, master := m, serial := r.serial, ctx := r.ctx, addr := r.addr, sizeM1 := r.sizeM1, label := o.label
    winIx := o.winIx, gen := o.gen, word := o.word, mask := o.mask, data := o.data, work := o.work
    state := .queued }

/-- The entries of a posted WRITE, numbered from `id` on, the one that carries lane 0 first (R57). -/
def entriesOf (m : Master) (r : Request) : Nat → List WordOp → List Entry
  | _, [] => []
  | id, o :: rest => entryOf m r id o :: entriesOf m r (id + 1) rest

/-- The numbers of the entries that belong to the drain (R143). -/
def qualifyingEntries (job : DrainJob) (es : List Entry) : List Nat :=
  es.filterMap fun e => if job.matchesWork e.master e.ctx e.winIx e.gen then some e.id else none

/-- The reply of a posted WRITE (R57). -/
def postedReply : Reply := { status := .ok, posted := true, data := Bytes8.zero }

/-- The translated WRITE r of master m is posted: its entries join the PWQ, the reply is sent, the record is IDLE, a
drain that held the request now holds its entries, and the head is judged (R57, R98, R101, R143). -/
def State.postRequest (s : State) (m : Master) (r : Request) : State :=
  let es := entriesOf m r s.nextEntry (requestOps r)
  let joined : State := { s with pwq := s.pwq ++ es, nextEntry := s.nextEntry + es.length }
  (((joined.sendReply m postedReply).setRecord m none).drainUpdate fun job =>
    Member.afterPosting m (qualifyingEntries job es)).settleHead

/-- The posting decision: every part's copy is POSTED, and the PWQ has the places (R56). -/
def State.mayPost (s : State) (r : Request) : Bool :=
  (r.parts.all fun p =>
    match p.copy with
    | none => false
    | some w => decide (w.posting = .posted)) &&
  decide (s.pwq.length + (requestOps r).length ≤ Config.pwqCapacity)

/-- When every part of request r in record m is resolved, the record acts on the outcome (R43, R53). -/
def State.completeTranslation (s : State) (m : Master) (r : Request) : State :=
  if r.parts.any (fun p => p.status = .waiting) then s
  else if r.parts.all (fun p => p.status = .translated) then
    match r.kind with
    | .read => s.holdRequest m r
    | .write => if s.mayPost r then s.postRequest m r else s.holdRequest m r
  else s.replyRequest m (composeReply r)

/-! ## Translating a part (R24 to R31) -/

/-- The PWQ entries that stand in the queue for one of the words (R73). -/
def State.snapshotFor (s : State) (words : List WordAddr) : List Nat :=
  (s.pwq.filter fun e => words.contains e.word).map (·.id)

/-- A part of request r once a window was found for it, or none: UNMAPPED, DENIED or TRANSLATED (R27, R28). -/
def State.resolvePart (s : State) (r : Request) (p : Part) (found : Option WinCopy) : Part :=
  match found with
  | none => { p with status := .unmapped, copy := none, snapshot := [] }
  | some w =>
    if w.permits r.kind then
      { p with status := .translated, copy := some w
               snapshot := s.snapshotFor (partWords w p.label r.addr r.sizeM1) }
    else { p with status := .denied, copy := some w, snapshot := [] }

/-- The record a part's resolution hands to the Fault Log, if it fails (R28, R38, R44). -/
def resolutionFault (m : Master) (r : Request) (label : Label) (found : Option WinCopy) : Option FaultBody :=
  match found with
  | none => some (unmappedFault m r label)
  | some w => if w.permits r.kind then none else some (deniedFault m r label w.index)

/-- The record of a resolution is handed in. -/
def State.handInOption (s : State) (b : Option FaultBody) : State :=
  match b with
  | none => s
  | some b => s.handIn b

/-- The stream compare: the window of stream record m, when the record is present, has the captured context and
covers the granule (R30). -/
def State.streamHit (s : State) (m : Master) (ctx : Ctx) (g : Nat) : Option WinCopy :=
  match s.stream m with
  | none => none
  | some r => if r.ctx = ctx ∧ runCovers r.win.start r.win.lenM1 g = true then some r.win else none

/-- A lookup joins the tail of the wait list (R34). -/
def State.joinWaitList (s : State) (l : Lookup) : State := { s with waitList := s.waitList ++ [l] }

/-- A SECOND part that awaits its translation (R26). -/
def secondPart (r : Request) : Part :=
  { label := .second, lanes := partLanes .second r.addr r.sizeM1, status := .waiting, copy := none, snapshot := [] }

/-- The SECOND part of the request in record m is resolved (R28, R31, R43). -/
def State.resolveSecond (s : State) (m : Master) (found : Option WinCopy) : State :=
  match s.record m with
  | none => s
  | some r =>
    let r' := { r with part2 := some (s.resolvePart r (secondPart r) found) }
    ((s.handInOption (resolutionFault m r .second found)).setRecord m (some r')).completeTranslation m r'

/-- The SECOND part's translation begins: UNMAPPED at once past FFFFFFh, else a stream compare, else a lookup
(R25, R31). -/
def State.beginSecond (s : State) (m : Master) : State :=
  match s.record m with
  | none => s
  | some r =>
    let g2 := granule2 r.addr r.sizeM1
    if g2 = 65536 then s.resolveSecond m none
    else
      match s.streamHit m r.ctx g2 with
      | some w => s.resolveSecond m (some w)
      | none =>
        (s.setRecord m (some { r with part2 := some (secondPart r) })).joinWaitList
          { master := m, ctx := r.ctx, granule := BitVec.ofNat 16 g2, label := .second }

/-- The first part of the request in record m is resolved: its label, its rights, and for a FIRST part the beginning
of the SECOND (R24, R28, R31). -/
def State.resolveFirst (s : State) (m : Master) (found : Option WinCopy) : State :=
  match s.record m with
  | none => s
  | some r =>
    let label := resolvedLabel r.addr r.sizeM1 found
    let p : Part := { r.part1 with label := label, lanes := partLanes label r.addr r.sizeM1 }
    let r' := { r with part1 := s.resolvePart r p found }
    let s' := (s.handInOption (resolutionFault m r label found)).setRecord m (some r')
    match label with
    | .only => s'.completeTranslation m r'
    | .first => s'.beginSecond m
    | .second => s'.beginSecond m

end Sys2Proof.Machine
end

