-- ==== Sys2Proof/Machine/FrontChannel.lean ====
section
/-! DEFINITION. The front-channel commands: REQUEST_ACCEPTANCE, OFFER_REMOVAL, CHANNEL_RESET_ASSERTION and
CHANNEL_RESET_RELEASE (chapter 3). -/

namespace Sys2Proof.Machine

/-! ## REQUEST_ACCEPTANCE (R47 to R52) -/

/-- Channel m may take an offer: PORST# and CRSTm# are not asserted, the record is IDLE, and no offer once taken still
stands (R47, R66, R181). -/
def State.channelOpen (s : State) (m : Master) : Bool :=
  !s.porst && !(s.channel m).crst && !(s.channel m).taken && (s.record m).isNone

/-- The request of an offer captured under context c, its first part WAITING (R23, R48, R49). -/
def newRequest (o : Offer) (serial : BitVec 8) (c : Ctx) : Request :=
  { state := .lookup, serial := serial, kind := o.kind, addr := o.addr, sizeM1 := o.sizeM1
    data := recordedLanes o.kind o.sizeM1 o.lanes, ctx := c
    part1 := { label := firstLabel o.addr o.sizeM1
               lanes := partLanes (firstLabel o.addr o.sizeM1) o.addr o.sizeM1
               status := .waiting, copy := none, snapshot := [] }
    part2 := none, ops := [], gathered := Bytes8.zero }

/-- The reply of an unbound request (R51). -/
def unboundReply : Reply := { status := .unbound, posted := false, data := Bytes8.zero }

/-- The lookup entry of a request's first part (R34). -/
def firstLookup (m : Master) (r : Request) : Lookup :=
  { master := m, ctx := r.ctx, granule := BitVec.ofNat 16 (granule1 r.addr), label := r.part1.label }

/-- The offer is taken: the hold-off shows "taken" and the serial counter advances (R47, R50). -/
def State.takeOffer (s : State) (m : Master) (o : Offer) : State :=
  s.setChannel m { s.channel m with offer := some o, taken := true, serial := (s.channel m).serial + 1 }

/-- The acceptance event of an open channel: UNBOUND at once, or a stream compare for the first part (R49, R51, R52). -/
def State.acceptOffer (s : State) (m : Master) (o : Offer) : State :=
  let serial := (s.channel m).serial
  match s.binding m with
  | none => ((s.takeOffer m o).handIn (unboundFault m serial o)).sendReply m unboundReply
  | some c =>
    let r := newRequest o serial c
    let s' := (s.takeOffer m o).setRecord m (some r)
    match s.streamHit m c (granule1 o.addr) with
    | some w => s'.resolveFirst m (some w)
    | none => s'.joinWaitList (firstLookup m r)

/-- An offer that is not taken: it stands on the channel and waits; while an offer taken before still stands, nothing
happens (R47, R64; notes/assumptions/6.md). -/
def State.offerWaits (s : State) (m : Master) (o : Offer) : State :=
  if (s.channel m).taken then s else s.setChannel m { s.channel m with offer := some o }

/-- REQUEST_ACCEPTANCE (R49). -/
def execRequestAcceptance (m : Master) (o : Offer) (s : State) : Host.Outcome State Fault Refusal :=
  if s.channelOpen m then .next (s.beginEvent.acceptOffer m o) else .next (s.beginEvent.offerWaits m o)

/-! ## OFFER_REMOVAL (R47) -/

/-- OFFER_REMOVAL: the taken offer is removed and the hold-off shows "not taken"; no effect while no offer was taken
(R47; notes/assumptions/8.md). -/
def execOfferRemoval (m : Master) (s : State) : Host.Outcome State Fault Refusal :=
  if (s.channel m).taken then
    .next (s.beginEvent.setChannel m { s.channel m with offer := none, taken := false })
  else .next s.beginEvent

/-! ## CHANNEL_RESET_ASSERTION (R62, R63, R135, R41, R148) -/

/-- The operation of request r that holds tag t. -/
def Request.opOnTag (r : Request) (t : TagNo) : Option WordOp := r.ops.find? fun o => o.state == .issued t

/-- What an operation of master m keeps as an orphan (R68). -/
def orphanOf (m : Master) (o : WordOp) : Orphan :=
  { master := m, ctx := o.ctx, winIx := o.winIx, gen := o.gen, data := o.data }

/-- A tag owned by a part of the request of m becomes an orphan's; any other is left (R135). -/
def orphanTag (m : Master) (r : Request) (t : TagNo) (g : Tag) : Tag :=
  match g.state with
  | .free => g
  | .quarantined _ => g
  | .live l =>
    match l.owner with
    | .pwqEntry => g
    | .orphan _ => g
    | .request m' _ =>
      if m' = m then
        match r.opOnTag t with
        | none => g
        | some o => { g with state := .live { l with owner := .orphan (orphanOf m o) } }
      else g

/-- The tags of the request's orphans that belong to the drain (R143). -/
def qualifyingOrphans (m : Master) (r : Request) (job : DrainJob) : List TagNo :=
  tagNos.filter fun t =>
    match r.opOnTag t with
    | none => false
    | some o => job.matchesWork m o.ctx o.winIx o.gen

/-- The request in record m is abandoned without a reply (R62, R63, R143). -/
def State.abandonRequest (s : State) (m : Master) : State :=
  match s.record m with
  | none => s
  | some r =>
    let s' : State := { s with port := { s.port with tags := Vector.ofFn fun t : TagNo => orphanTag m r t (s.tag t) } }
    (s'.setRecord m none).drainUpdate fun job => Member.afterAbandonment m (qualifyingOrphans m r job)

/-- The Search Engine marks the lookup it serves when it is master m's (R41). -/
def Engine.abandon (m : Master) : Engine → Engine
  | .idle => .idle
  | .searching v => .searching (if v.lookup.master = m then { v with abandoned := true } else v)
  | .repeating v => .repeating (if v.lookup.master = m then { v with abandoned := true } else v)

/-- The assertion of CRSTm# (R33, R41, R62). -/
def State.assertChannelReset (s : State) (m : Master) : State :=
  let s1 := (s.setChannel m { s.channel m with crst := true }).setStream m none
  let s2 : State := { s1 with waitList := s1.waitList.filter (·.master ≠ m), engine := s1.engine.abandon m }
  s2.abandonRequest m

/-- CHANNEL_RESET_ASSERTION (R62). -/
def execChannelResetAssertion (m : Master) (s : State) : Host.Outcome State Fault Refusal :=
  .next (s.beginEvent.assertChannelReset m)

/-- CHANNEL_RESET_RELEASE: channel m may take offers again; while PORST# is asserted it stays closed (R64, R181). -/
def execChannelResetRelease (m : Master) (s : State) : Host.Outcome State Fault Refusal :=
  .next (s.beginEvent.setChannel m { s.channel m with crst := false })

end Sys2Proof.Machine
end

