-- ==== Sys2Proof/Machine/BackPort.lean ====
section
/-! DEFINITION. The Back Port's commands: TAG_GRANT, ANSWER, DEADLINE_EXPIRY, CLEARED and CLEAR_DEADLINE_EXPIRY
(chapter 7, with the word operations of chapter 4 and the entries of chapter 6). -/

namespace Sys2Proof.Machine

/-! ## TAG_GRANT (R72, R99, R118 to R120) -/

/-- A PENDING operation of master m's request r is ready (R72). -/
def State.opReady (s : State) (m : Master) (r : Request) (o : WordOp) : Bool :=
  decide (o.state = .pending) && decide (r.state ≠ .lookup) &&
  s.pwq.all (fun e => decide (e.master ≠ m)) &&
  o.snapshot.all (fun id => s.pwq.all fun e => decide (e.id ≠ id)) &&
  !s.wordHeld o.word && decide (s.port.back = .normal)

/-- The places of the ready operations of a request (R75). -/
def State.readyOps (s : State) (m : Master) (r : Request) : List Nat :=
  (List.range r.ops.length).filter fun i =>
    match r.ops[i]? with
    | none => false
    | some o => s.opReady m r o

/-- The entry the PWQ offers: its oldest QUEUED entry, when no tag holds its word and the back port is NORMAL (R99). -/
def State.offeredEntry (s : State) : Option Entry :=
  match s.oldestQueued with
  | none => none
  | some e => if !s.wordHeld e.word && decide (s.port.back = .normal) then some e else none

/-- A source is ready (R118). -/
def State.sourceReady (s : State) : Source → Bool
  | .master m =>
    match s.record m with
    | none => false
    | some r => !(s.readyOps m r).isEmpty
  | .pwq => s.offeredEntry.isSome

/-- The sources in cyclic order from the one after the pointer (R118). -/
def Source.after : Source → List Source
  | .master 0 => [.master 1, .master 2, .master 3, .pwq, .master 0]
  | .master 1 => [.master 2, .master 3, .pwq, .master 0, .master 1]
  | .master 2 => [.master 3, .pwq, .master 0, .master 1, .master 2]
  | .master 3 => [.pwq, .master 0, .master 1, .master 2, .master 3]
  | .pwq => [.master 0, .master 1, .master 2, .master 3, .pwq]

/-- The first ready source after the pointer (R119). -/
def State.nextSource (s : State) : Option Source := s.port.pointer.after.find? s.sourceReady

/-- The operation a grant takes among the ready ones (R75; notes/assumptions/5.md). -/
def chooseOp (choice : OpChoice) (ready : List Nat) : Option Nat :=
  match choice with
  | .first => ready.head?
  | .second => ready.getLast?

/-- The command sent at a grant: WRITE for a WRITE, READ for a READ and for an RMW (R77, R99, R113). -/
def grantCommand (t : TagNo) (word : WordAddr) (work : Work) (data : Bytes8) : MemCommand :=
  match work with
  | .read => .read t word
  | .rmw _ => .read t word
  | .write => .write t word data (checkByte data)

/-- The pointer names the source granted (R119). -/
def State.setPointer (s : State) (src : Source) : State := { s with port := { s.port with pointer := src } }

/-- Tag t is granted to operation i of request r of master m (R77, R120). -/
def State.grantOp (s : State) (t : TagNo) (m : Master) (r : Request) (i : Nat) (o : WordOp) : State :=
  ((((s.startTag t o.word o.work (.request m o.label)).setPointer (.master m)).sendCommand
    (grantCommand t o.word o.work o.data)).setRecord m
      (some { r with state := .active, ops := r.ops.set i { o with state := .issued t, snapshot := [] } }))

/-- An entry holding tag t. -/
def Entry.issue (t : TagNo) (e : Entry) : Entry := { e with state := .issued t }

/-- Tag t is granted to the PWQ's oldest QUEUED entry; the next becomes the oldest and is judged (R99, R101, R120). -/
def State.grantEntry (s : State) (t : TagNo) (e : Entry) : State :=
  let s' := ((s.startTag t e.word e.work .pwqEntry).setPointer .pwq).sendCommand (grantCommand t e.word e.work e.data)
  State.settleHead { s' with pwq := s'.pwq.map fun x => if x.id = e.id then x.issue t else x }

/-- The grant of FREE tag t to the first ready source after the pointer (R119, R120). -/
def State.grant (s : State) (t : TagNo) (choice : OpChoice) : State :=
  match s.nextSource with
  | none => s
  | some .pwq =>
    match s.offeredEntry with
    | none => s
    | some e => s.grantEntry t e
  | some (.master m) =>
    match s.record m with
    | none => s
    | some r =>
      match chooseOp choice (s.readyOps m r) with
      | none => s
      | some i =>
        match r.ops[i]? with
        | none => s
        | some o => s.grantOp t m r i o

/-- TAG_GRANT: no grant is made when tag t is not FREE or no source is ready (R119; notes/assumptions/3.md, 5.md). -/
def execTagGrant (t : TagNo) (choice : OpChoice) (s : State) : Host.Outcome State Fault Refusal :=
  if (s.tag t).state = .free then .next (s.beginEvent.grant t choice) else .next s.beginEvent

/-! ## ANSWER (R125 to R127, R179, R180) -/

/-- What an answer does to the work it answers. -/
inductive AnswerEffect where
  /-- The work completes with status OK. -/
  | completes
  /-- A READ completes and its bytes are gathered (R84). -/
  | gathers
  /-- An RMW is merged and goes to its write phase (R81). -/
  | merges
  /-- The work fails. -/
  | fails (c : Cause)
  deriving DecidableEq, Repr

/-- The effect of an answer on work that is no orphan's: ERROR fails MEMORY unverified, a disagreeing check byte
fails CHECK (R78 to R82, R90, R92, R102, R103). -/
def answerEffect (work : Work) (status : AnswerStatus) (data : Bytes8) (check : Byte) : AnswerEffect :=
  match status with
  | .error => .fails .memory
  | .ok =>
    match work with
    | .write => .completes
    | .rmw .writePhase => .completes
    | .read => if agrees data check then .gathers else .fails .check
    | .rmw .readPhase => if agrees data check then .merges else .fails .check

/-- The operations of r that hold tag t, changed by f. -/
def Request.onTag (r : Request) (t : TagNo) (f : WordOp → WordOp) : Request :=
  { r with ops := r.ops.map fun o => if o.state = .issued t then f o else o }

/-- An operation that is DONE with this status and tag (R68). -/
def WordOp.finish (st : OpStatus) (tag : Option TagNo) (o : WordOp) : WordOp := { o with state := .done st tag }

/-- An operation merged with the word read, in its write phase (R81). -/
def WordOp.merged (word : Bytes8) (o : WordOp) : WordOp :=
  { o with data := mergeWord o.mask o.data word, work := .rmw .writePhase }

/-- An entry merged with the word read, in its write phase (R103). -/
def Entry.merged (word : Bytes8) (e : Entry) : Entry :=
  { e with data := mergeWord e.mask e.data word, work := .rmw .writePhase }

/-- The WRITE of an RMW's write phase is sent on the tag it holds, with a fresh count (R81). -/
def State.sendMerged (s : State) (t : TagNo) (word : WordAddr) (owner : Owner) (data : Bytes8) : State :=
  (s.startTag t word (.rmw .writePhase) owner).sendCommand (.write t word data (checkByte data))

/-- An answer on tag t to operation o of the request r in record m (R78 to R82, R84, R125). -/
def State.answerOp (s : State) (t : TagNo) (m : Master) (r : Request) (o : WordOp) (owner : Owner)
    (effect : AnswerEffect) (data : Bytes8) : State :=
  match effect with
  | .completes => ((s.freeTag t).setRecord m (some (r.onTag t (WordOp.finish .ok none)))).finishRequest m
  | .gathers =>
    ((s.freeTag t).setRecord m (some
      { r.onTag t (WordOp.finish .ok none) with
        gathered := gatherLanes o.mask o.lanes data r.gathered })).finishRequest m
  | .merges =>
    (s.sendMerged t o.word owner (o.merged data).data).setRecord m (some (r.onTag t (WordOp.merged data)))
  | .fails c =>
    (((s.freeTag t).handIn (opFault m r o c t)).setRecord m
      (some (r.onTag t (WordOp.finish (.failed c) (some t))))).finishRequest m

/-- An answer on tag t to entry e of the PWQ (R102, R103, R125). -/
def State.answerEntry (s : State) (t : TagNo) (e : Entry) (effect : AnswerEffect) (data : Bytes8) : State :=
  match effect with
  | .completes => (s.freeTag t).leaveEntry e.id
  | .gathers => (s.freeTag t).leaveEntry e.id
  | .merges =>
    let s' := s.sendMerged t e.word .pwqEntry (e.merged data).data
    { s' with pwq := s'.pwq.map fun x => if x.state = .issued t then x.merged data else x }
  | .fails c => (s.freeTag t).failEntry e c t

/-- The orphan on tag t ends: its outcome is discarded (R63, R144). -/
def State.endOrphan (s : State) (t : TagNo) : State := s.drainUpdate fun _ => Member.afterOrphan t

/-- The entry that holds tag t. -/
def State.entryOnTag (s : State) (t : TagNo) : Option Entry := s.pwq.find? fun e => e.state == .issued t

/-- An answer that names LIVE tag t (R125). -/
def State.answerLive (s : State) (t : TagNo) (l : LiveWork) (status : AnswerStatus) (data : Bytes8) (check : Byte) :
    State :=
  match l.owner with
  | .orphan _ => (s.freeTag t).endOrphan t
  | .pwqEntry =>
    match s.entryOnTag t with
    | none => s.freeTag t
    | some e => s.answerEntry t e (answerEffect l.work status data check) data
  | .request m _ =>
    match s.record m with
    | none => s.freeTag t
    | some r =>
      match r.opOnTag t with
      | none => s.freeTag t
      | some o => s.answerOp t m r o l.owner (answerEffect l.work status data check) data

/-- An answer that names a tag of the pool, by the tag's state: stray, late, or answering (R125 to R127). -/
def State.answerTag (s : State) (t : TagNo) (status : AnswerStatus) (data : Bytes8) (check : Byte) : State :=
  match (s.tag t).state with
  | .free => s.handIn (strayFault t (s.tag t).lastWord)
  | .quarantined _ => s.freeTag t
  | .live l => s.answerLive t l status data check

/-- ANSWER: dropped while PORST# is asserted (R179), discarded when it names 6 or 7 (R180). -/
def execAnswer (tag : BitVec 3) (status : AnswerStatus) (data : Bytes8) (check : Byte) (s : State) :
    Host.Outcome State Fault Refusal :=
  if s.porst then .next s.beginEvent
  else if h : tag.toNat < 6 then .next (s.beginEvent.answerTag ⟨tag.toNat, h⟩ status data check)
  else .next s.beginEvent

/-! ## DEADLINE_EXPIRY (R124) -/

/-- The work LIVE tag t carried fails TIMEOUT (R124). -/
def State.expireWork (s : State) (t : TagNo) (l : LiveWork) : State :=
  match l.owner with
  | .orphan _ => s.endOrphan t
  | .pwqEntry =>
    match s.entryOnTag t with
    | none => s
    | some e => s.failEntry e .timeout t
  | .request m _ =>
    match s.record m with
    | none => s
    | some r =>
      match r.opOnTag t with
      | none => s
      | some o =>
        ((s.handIn (opFault m r o .timeout t)).setRecord m
          (some (r.onTag t (WordOp.finish (.failed .timeout) (some t))))).finishRequest m

/-- LIVE tag t expires: it is QUARANTINED on its word, its work fails, then the waiting operations in the order of
their masters, then the head of the PWQ (R124, R160). -/
def State.expireTag (s : State) (t : TagNo) (l : LiveWork) : State :=
  let s1 := s.setTag t { s.tag t with state := .quarantined l.word }
  ((masters.foldl State.judgeReadiness (s1.expireWork t l))).settleHead

/-- DEADLINE_EXPIRY of one tag: a FREE or QUARANTINED tag has no count, so nothing expires (R123;
notes/assumptions/2.md, 3.md). Two deadlines that expire in the same event are two such commands, the first judged and
numbered wholly before the second: the model's choice (notes/assumptions/23.md). -/
def execDeadlineExpiry (t : TagNo) (s : State) : Host.Outcome State Fault Refusal :=
  match (s.tag t).state with
  | .free => .next s.beginEvent
  | .quarantined _ => .next s.beginEvent
  | .live l => .next (s.beginEvent.expireTag t l)

/-! ## The end of a clear (R131, R132) -/

/-- A QUARANTINED tag becomes FREE; any other is left (R131). -/
def Tag.release (g : Tag) : Tag :=
  match g.state with
  | .free => g
  | .live _ => g
  | .quarantined _ => { g with state := .free }

/-- CLEARED: ends a running clear, and is ignored when none runs or while PORST# is asserted (R131, R132, R179). -/
def execCleared (s : State) : Host.Outcome State Fault Refusal :=
  if s.porst then .next s.beginEvent
  else
    match s.port.back with
    | .normal => .next s.beginEvent
    | .clearing _ =>
      .next { s.beginEvent with
        port := { s.port with
          tags := Vector.ofFn fun t : TagNo => (s.tag t).release
          back := .normal
          lastClear := .done } }

/-- CLEAR_DEADLINE_EXPIRY: a running clear ends FAILED and the quarantine stays (R132). -/
def execClearDeadlineExpiry (s : State) : Host.Outcome State Fault Refusal :=
  match s.port.back with
  | .normal => .next s.beginEvent
  | .clearing _ => .next { s.beginEvent with port := { s.port with back := .normal, lastClear := .failed } }

end Sys2Proof.Machine
end

