-- ==== Sys2Proof/Machine/Maintenance.lean ====
section
/-! DEFINITION. The Maintenance Link (chapter 10): MSEL_ASSERTION, the periods, and the ten maintenance commands with
the effects their blocks own (chapters 1, 2, 7, 8 and 9). -/

namespace Sys2Proof.Machine

/-! ## Periods and frames (R167, R168, R171) -/

/-- What MDO shows in the period that ends now: the buffer as it stood at the assertion of MSEL#. A frame given with
MSEL# deasserted carries its own assertion (notes/assumptions/9.md, 10.md). -/
def Link.shown (l : Link) : Option Response :=
  match l.period with
  | .none => l.buffer
  | .running shown => shown
  | .ignored shown => shown

/-- The link judges the period that ends now: not while PORST# is asserted, nor a period whose rest is ignored (R171). -/
def State.takesPeriod (s : State) : Bool :=
  !s.porst &&
  (match s.link.period with
    | .none => true
    | .running _ => true
    | .ignored _ => false)

/-- MSEL# is deasserted after `bytes` complete bytes and `tail` further bits (R167, R168). -/
def State.endPeriod (s : State) (bytes tail : Nat) : State :=
  { s with
    link := { s.link with period := .none }
    out := { s.out with mdo := some (mdoOver s.link.shown bytes tail) } }

/-- The buffer holds this response, or none. -/
def State.setBuffer (s : State) (r : Option Response) : State := { s with link := { s.link with buffer := r } }

/-- The frame event of a period: it ends, and takes its effect when the link judges it (R167, R171). -/
def State.frameEvent (s : State) (bytes tail : Nat) (effect : State → State) : State :=
  if s.takesPeriod then effect (s.beginEvent.endPeriod bytes tail) else s.beginEvent.endPeriod bytes tail

/-- A response with no result bytes. -/
def bare (st : RespStatus) : Response := { status := st, result := [] }

/-- A command's effect, and its response into the buffer; none is a frame of the wrong length, answered BADLEN
(R169). -/
def State.takeCommand (s : State) (cmd : Option (State → State × Response)) : State :=
  match cmd with
  | none => s.setBuffer (some (bare .badlen))
  | some f => (f s).1.setBuffer (some (f s).2)

/-- The frame event of a command frame (R169, R170). -/
def State.commandFrame (s : State) (f : Frame) (cmd : Option (State → State × Response)) : State :=
  s.frameEvent (f.args.length + 1) f.tail fun s' => s'.takeCommand cmd

/-- The frame ends at a byte and has the arguments of its length; else it is of the wrong length (R167, R169). -/
def exactArgs (f : Frame) : Option (List Byte) := if f.tail = 0 then some f.args else none

/-- The command of a frame without arguments (Table 10-1). -/
def noArgs (f : Frame) (cmd : State → State × Response) : Option (State → State × Response) :=
  match exactArgs f with
  | some [] => some cmd
  | _ => none

/-- The command of a frame with one argument byte (Table 10-1). -/
def oneArg (f : Frame) (cmd : Byte → State → State × Response) : Option (State → State × Response) :=
  match exactArgs f with
  | some [a] => some (cmd a)
  | _ => none

/-- The command of a frame with two argument bytes (Table 10-1). -/
def twoArgs (f : Frame) (cmd : Byte → Byte → State → State × Response) : Option (State → State × Response) :=
  match exactArgs f with
  | some [a, b] => some (cmd a b)
  | _ => none

/-- MSEL_ASSERTION: a period begins and shows the buffer as it stands; while PORST# is asserted the period is one the
link ignores. MSEL# already asserted: nothing (R167, R168, R171; notes/assumptions/3.md). -/
def execMselAssertion (s : State) : Host.Outcome State Fault Refusal :=
  match s.link.period with
  | .none =>
    .next { s.beginEvent with
      link := { s.link with period := if s.porst then .ignored s.link.buffer else .running s.link.buffer } }
  | .running _ => .next s.beginEvent
  | .ignored _ => .next s.beginEvent

/-- SHORT_PERIOD: fewer than 8 edges; the period is ignored and the buffer stays (R167, R168;
notes/assumptions/20.md). -/
def execShortPeriod (edges : Nat) (s : State) : Host.Outcome State Fault Refusal :=
  if edges < 8 then .next (s.frameEvent 0 edges fun s' => s') else .next s.beginEvent

/-- READ_PERIOD: the buffer is shifted out and is left empty (R168; notes/assumptions/20.md). -/
def execReadPeriod (bytes tail : Nat) (s : State) : Host.Outcome State Fault Refusal :=
  if 1 ≤ bytes then .next (s.frameEvent bytes tail fun s' => s'.setBuffer none) else .next s.beginEvent

/-- BADCMD: byte 0 is no command code, whatever the length (R169; notes/assumptions/20.md). -/
def execBadcmd (code : Byte) (f : Frame) (s : State) : Host.Outcome State Fault Refusal :=
  if code ≠ 0 ∧ code ∉ commandCodes then
    .next (s.frameEvent (f.args.length + 1) f.tail fun s' => s'.setBuffer (some (bare .badcmd)))
  else .next s.beginEvent

/-! ## Argument bytes, taken as whole values (R169) -/

/-- A master byte: 0 to 3. -/
def masterOf (b : Byte) : Option Master := if h : b.toNat < 4 then some ⟨b.toNat, h⟩ else none

/-- A context byte: 0 to 7. -/
def ctxOf (b : Byte) : Option Ctx := if h : b.toNat < 8 then some ⟨b.toNat, h⟩ else none

/-- An index byte: 0 to 15. -/
def winIxOf (b : Byte) : Option WinIx := if h : b.toNat < 16 then some ⟨b.toNat, h⟩ else none

/-- The context byte of BIND: FFh for none, or 0 to 7 (R137, R175). -/
def bindCtxOf (b : Byte) : Option (Option Ctx) := if b = 0xFF then some none else (ctxOf b).map some

/-! ## STATUS, STAGE, COMMIT, READ_WINDOW -/

/-- STATUS (R172). -/
def statusCommand (s : State) : State × Response := (s, { status := .done, result := statusBytes s })

/-- STATUS. -/
def execStatus (f : Frame) (s : State) : Host.Outcome State Fault Refusal :=
  .next (s.commandFrame f (noArgs f statusCommand))

/-- STAGE replaces the image and sets it loaded (R13). -/
def stageCommand (i : Image) (s : State) : State × Response :=
  ({ s with staging := { image := i, loaded := true } }, bare .done)

/-- The command of a STAGE frame: eight argument bytes (Tables 10-1, 10-3). -/
def stageArgs (f : Frame) : Option (State → State × Response) :=
  match exactArgs f with
  | some [fl, s1, s0, l1, l0, b2, b1, b0] => some (stageCommand (stagedImage fl s1 s0 l1 l0 b2 b1 b0))
  | _ => none

/-- STAGE. -/
def execStage (f : Frame) (s : State) : Host.Outcome State Fault Refusal := .next (s.commandFrame f (stageArgs f))

/-- The tracker is DRAINING (R139). -/
def State.draining (s : State) : Bool :=
  match s.drain.state with
  | .idle => false
  | .draining _ _ => true

/-- A repeated search for context c is running, abandoned or not (R39, R41). -/
def State.repeatingIn (s : State) (c : Ctx) : Bool :=
  match s.engine with
  | .idle => false
  | .searching _ => false
  | .repeating v => decide (v.lookup.ctx = c)

/-- The valid staged image shares a granule with a valid window of context c other than slot w (R17). -/
def State.overlaps (s : State) (c : Ctx) (w : WinIx) : Bool :=
  winIxs.any fun v =>
    decide (v ≠ w) && (s.slot c v).image.valid &&
      runsShare s.staging.image.start s.staging.image.lenM1 (s.slot c v).image.start (s.slot c v).image.lenM1

/-- The checks 2 to 6 of Table 1-3, in order: the refusal, or none (R15 to R18). -/
def State.commitRefusal (s : State) (c : Ctx) (w : WinIx) : Option RespStatus :=
  if !s.staging.loaded then some .nostage
  else if s.draining then some .busy
  else if s.repeatingIn c then some .busy
  else if s.staging.image.valid && s.staging.image.outOfBounds then some .bounds
  else if s.staging.image.valid && s.overlaps c w then some .overlap
  else none

/-- The stream record names slot c.w (R20). -/
def StreamRec.names (r : StreamRec) (c : Ctx) (w : WinIx) : Bool := decide (r.ctx = c) && decide (r.win.index = w)

/-- A stream record after the commit event of c.w (R20). -/
def dropNamed (c : Ctx) (w : WinIx) : Option StreamRec → Option StreamRec
  | none => none
  | some r => if r.names c w then none else some r

/-- The Window Table after the commit event of c.w (R19). -/
def WindowTable.commit (t : WindowTable) (c : Ctx) (w : WinIx) (i : Image) : WindowTable :=
  { slots := t.slots.set c (t.slots[c].set w { image := i, gen := t.slots[c][w].gen + 1 })
    versions := t.versions.set c (t.versions[c] + 1) }

/-- The commit event of c.w (R19, R20, R140). -/
def State.commitEvent (s : State) (c : Ctx) (w : WinIx) : State :=
  let job : DrainJob := .commit c w (s.slot c w).gen
  let s' : State :=
    { s with
      windows := s.windows.commit c w s.staging.image
      streams := Vector.ofFn fun m : Master => dropNamed c w (s.stream m) }
  s'.beginDrain job (s.drainMembers job)

/-- COMMIT (R15, R19). -/
def commitCommand (cb wb : Byte) (s : State) : State × Response :=
  match ctxOf cb, winIxOf wb with
  | some c, some w =>
    match s.commitRefusal c w with
    | some st => (s, bare st)
    | none => (s.commitEvent c w, bare .accepted)
  | _, _ => (s, bare .range)

/-- COMMIT. -/
def execCommit (f : Frame) (s : State) : Host.Outcome State Fault Refusal :=
  .next (s.commandFrame f (twoArgs f commitCommand))

/-- READ_WINDOW (R11, R174). -/
def readWindowCommand (cb wb : Byte) (s : State) : State × Response :=
  match ctxOf cb, winIxOf wb with
  | some c, some w => (s, { status := .done, result := windowBytes (s.slot c w) })
  | _, _ => (s, bare .range)

/-- READ_WINDOW. -/
def execReadWindow (f : Frame) (s : State) : Host.Outcome State Fault Refusal :=
  .next (s.commandFrame f (twoArgs f readWindowCommand))

/-! ## BIND, READ_BINDING, READ_STREAM -/

/-- The acceptance event of a BIND (R137, R140). -/
def State.bindEvent (s : State) (m : Master) (c : Option Ctx) : State :=
  ((s.setBinding m c).setStream m none).beginDrain (.bind m) (s.drainMembers (.bind m))

/-- BIND (R137). -/
def bindCommand (mb cb : Byte) (s : State) : State × Response :=
  match masterOf mb, bindCtxOf cb with
  | some m, some c => if s.draining then (s, bare .busy) else (s.bindEvent m c, bare .accepted)
  | _, _ => (s, bare .range)

/-- BIND. -/
def execBind (f : Frame) (s : State) : Host.Outcome State Fault Refusal :=
  .next (s.commandFrame f (twoArgs f bindCommand))

/-- The byte of a binding: the context, or FFh for none (R175). -/
def bindingByte : Option Ctx → Byte
  | none => 0xFF
  | some c => BitVec.ofNat 8 c.val

/-- READ_BINDING (R136, R175). -/
def readBindingCommand (mb : Byte) (s : State) : State × Response :=
  match masterOf mb with
  | some m => (s, { status := .done, result := [bindingByte (s.binding m)] })
  | none => (s, bare .range)

/-- READ_BINDING. -/
def execReadBinding (f : Frame) (s : State) : Host.Outcome State Fault Refusal :=
  .next (s.commandFrame f (oneArg f readBindingCommand))

/-- READ_STREAM (R29, R176). -/
def readStreamCommand (mb : Byte) (s : State) : State × Response :=
  match masterOf mb with
  | some m => (s, { status := .done, result := streamBytes (s.stream m) })
  | none => (s, bare .range)

/-- READ_STREAM. -/
def execReadStream (f : Frame) (s : State) : Host.Outcome State Fault Refusal :=
  .next (s.commandFrame f (oneArg f readStreamCommand))

/-! ## POP_FAULT, SET_DEADLINE, BACK_CLEAR -/

/-- POP_FAULT: the oldest record is returned and removed (R164). -/
def popFaultCommand (s : State) : State × Response :=
  match s.log.records with
  | [] => (s, bare .empty)
  | r :: rest =>
    ({ s with log := { s.log with records := rest } }, { status := .done, result := faultBytes r })

/-- POP_FAULT. -/
def execPopFault (f : Frame) (s : State) : Host.Outcome State Fault Refusal :=
  .next (s.commandFrame f (noArgs f popFaultCommand))

/-- SET_DEADLINE (R122, R178). -/
def setDeadlineCommand (v : Byte) (s : State) : State × Response :=
  if v = 0 then (s, bare .range) else ({ s with port := { s.port with deadline := v } }, bare .done)

/-- SET_DEADLINE. -/
def execSetDeadline (f : Frame) (s : State) : Host.Outcome State Fault Refusal :=
  .next (s.commandFrame f (oneArg f setDeadlineCommand))

/-- The acceptance event of BACK_CLEAR: CLEARING with the clear's own count, and CLEAR is sent (R130). -/
def State.startClear (s : State) : State :=
  State.sendCommand { s with port := { s.port with back := .clearing s.port.deadline } } .clear

/-- BACK_CLEAR (R129, R130). -/
def backClearCommand (s : State) : State × Response :=
  if s.anyLive then (s, bare .busy)
  else
    match s.port.back with
    | .clearing _ => (s, bare .busy)
    | .normal => (s.startClear, bare .accepted)

/-- BACK_CLEAR. -/
def execBackClear (f : Frame) (s : State) : Host.Outcome State Fault Refusal :=
  .next (s.commandFrame f (noArgs f backClearCommand))

end Sys2Proof.Machine
end

