-- ==== Sys2Proof/Machine/Reset.lean ====
section
/-! DEFINITION. POWER_ON_RESET and POWER_ON_RESET_RELEASE (R10, R66, R110, R134, R151, R166, R171, R181). -/

namespace Sys2Proof.Machine

/-- A channel at power-on: its input lines keep what the board drives; the hold-off shows "not taken" and the serial
counter is 0 (R50, R66, R181; notes/assumptions/7.md, 22.md). -/
def Channel.powerOn (c : Channel) : Channel := { offer := c.offer, taken := false, crst := c.crst, serial := 0 }

/-- A period in progress is abandoned: its rest is ignored (R171). -/
def Period.abandon : Period → Period
  | .none => .none
  | .running shown => .ignored shown
  | .ignored shown => .ignored shown

/-- POWER_ON_RESET: every block takes its power-on values; all work is abandoned without replies, orphans or records
(R66, R110, R134, R151, R166). -/
def execPowerOnReset (s : State) : Host.Outcome State Fault Refusal :=
  .next { State.reset with
    channels := Vector.ofFn fun m : Master => (s.channel m).powerOn
    link := { buffer := none, period := s.link.period.abandon }
    porst := true
    pending := s.pending }

/-- POWER_ON_RESET_RELEASE: the answer path and the link are taken again, and every channel whose CRSTm# is not
asserted may take offers (R66, R171, R179, R181). -/
def execPowerOnResetRelease (s : State) : Host.Outcome State Fault Refusal :=
  .next { s.beginEvent with porst := false }

end Sys2Proof.Machine
end

