-- ==== Sys2Proof/Machine/Search.lean ====
section
/-! DEFINITION. The Search Engine's commands: SEARCH_BEGIN, SEARCH_COMPLETION and REPEATED_SEARCH_COMPLETION
(chapter 2, sections 2.4 and 2.5). -/

namespace Sys2Proof.Machine

/-- The slot of context c whose valid window covers the granule, examined in index order (R37). -/
def State.findWindow (s : State) (c : Ctx) (g : Nat) : Option WinCopy :=
  (winIxs.find? fun w => (s.slot c w).image.covers g).map fun w => (s.slot c w).copy w

/-- A delivered window loads the stream record when the searched context is the master's binding (R32). -/
def State.loadStream (s : State) (l : Lookup) (found : Option WinCopy) : State :=
  match found with
  | none => s
  | some w => if s.binding l.master = some l.ctx then s.setStream l.master (some { ctx := l.ctx, win := w }) else s

/-- The result of the search for l, formed from the Window Table as it stands, is delivered (R37, R38). -/
def State.deliver (s : State) (l : Lookup) : State :=
  let found := s.findWindow l.ctx l.granule.toNat
  let s' := s.loadStream l found
  match l.label with
  | .only => s'.resolveFirst l.master found
  | .first => s'.resolveFirst l.master found
  | .second => s'.resolveSecond l.master found

/-- SEARCH_BEGIN: an IDLE engine takes the head entry and captures its context version; otherwise nothing begins
(R36; notes/assumptions/3.md). -/
def execSearchBegin (s : State) : Host.Outcome State Fault Refusal :=
  match s.engine, s.waitList with
  | .idle, l :: rest =>
    .next { s.beginEvent with
      waitList := rest
      engine := .searching { lookup := l, captured := s.version l.ctx, abandoned := false } }
  | _, _ => .next s.beginEvent

/-- SEARCH_COMPLETION: a first attempt completes: discarded when abandoned (R41), delivered when the versions are
equal, else repeated (R38); without a first attempt nothing completes (notes/assumptions/3.md). -/
def execSearchCompletion (s : State) : Host.Outcome State Fault Refusal :=
  match s.engine with
  | .idle => .next s.beginEvent
  | .repeating _ => .next s.beginEvent
  | .searching v =>
    if v.abandoned then .next { s.beginEvent with engine := .idle }
    else if v.captured = s.version v.lookup.ctx then
      .next (State.deliver { s.beginEvent with engine := .idle } v.lookup)
    else .next { s.beginEvent with engine := .repeating { v with captured := s.version v.lookup.ctx } }

/-- REPEATED_SEARCH_COMPLETION: a repeated search completes and delivers without comparing versions (R39), or is
discarded when abandoned (R41). -/
def execRepeatedSearchCompletion (s : State) : Host.Outcome State Fault Refusal :=
  match s.engine with
  | .idle => .next s.beginEvent
  | .searching _ => .next s.beginEvent
  | .repeating v =>
    if v.abandoned then .next { s.beginEvent with engine := .idle }
    else .next (State.deliver { s.beginEvent with engine := .idle } v.lookup)

end Sys2Proof.Machine
end

