-- ==== Sys2Proof/Machine/Dispatch.lean ====
section
/-! DEFINITION. The dispatch: one arm for each command, each one direct call of its meaning. -/

namespace Sys2Proof.Machine

/-- The effect of a command on everything but the queue. -/
def exec (i : Instr) (s : State) : Host.Outcome State Fault Refusal :=
  match i with
  | .requestAcceptance m o => Sys2Proof.Machine.execRequestAcceptance m o s
  | .offerRemoval m => Sys2Proof.Machine.execOfferRemoval m s
  | .searchBegin => Sys2Proof.Machine.execSearchBegin s
  | .searchCompletion => Sys2Proof.Machine.execSearchCompletion s
  | .repeatedSearchCompletion => Sys2Proof.Machine.execRepeatedSearchCompletion s
  | .tagGrant t choice => Sys2Proof.Machine.execTagGrant t choice s
  | .answer tag status data check => Sys2Proof.Machine.execAnswer tag status data check s
  | .deadlineExpiry t => Sys2Proof.Machine.execDeadlineExpiry t s
  | .cleared => Sys2Proof.Machine.execCleared s
  | .clearDeadlineExpiry => Sys2Proof.Machine.execClearDeadlineExpiry s
  | .channelResetAssertion m => Sys2Proof.Machine.execChannelResetAssertion m s
  | .channelResetRelease m => Sys2Proof.Machine.execChannelResetRelease m s
  | .powerOnReset => Sys2Proof.Machine.execPowerOnReset s
  | .powerOnResetRelease => Sys2Proof.Machine.execPowerOnResetRelease s
  | .shortPeriod edges => Sys2Proof.Machine.execShortPeriod edges s
  | .readPeriod bytes tail => Sys2Proof.Machine.execReadPeriod bytes tail s
  | .badcmd code f => Sys2Proof.Machine.execBadcmd code f s
  | .status f => Sys2Proof.Machine.execStatus f s
  | .stage f => Sys2Proof.Machine.execStage f s
  | .commit f => Sys2Proof.Machine.execCommit f s
  | .readWindow f => Sys2Proof.Machine.execReadWindow f s
  | .bind f => Sys2Proof.Machine.execBind f s
  | .readBinding f => Sys2Proof.Machine.execReadBinding f s
  | .readStream f => Sys2Proof.Machine.execReadStream f s
  | .popFault f => Sys2Proof.Machine.execPopFault f s
  | .setDeadline f => Sys2Proof.Machine.execSetDeadline f s
  | .backClear f => Sys2Proof.Machine.execBackClear f s
  | .mselAssertion => Sys2Proof.Machine.execMselAssertion s

end Sys2Proof.Machine
end

