-- ==== Sys2Proof/Safety.lean ====
section
/-! DEFINITION. What the spec promises of every state the part reaches: the laws that the Imbrio "keeps", each as a
predicate on states. -/

namespace Sys2Proof.Machine

/-! ## Windows and streams -/

/-- Within one context no two valid windows share a granule (R17), and a valid window lies inside both spaces (R3). -/
def WindowsSeparate (s : State) : Prop :=
  ∀ c : Ctx, ∀ w : WinIx, (s.slot c w).image.valid = true →
    (s.slot c w).image.outOfBounds = false ∧
    ∀ v : WinIx, v ≠ w → (s.slot c v).image.valid = true →
      runsShare (s.slot c v).image.start (s.slot c v).image.lenM1 (s.slot c w).image.start (s.slot c w).image.lenM1 =
        false

/-- A present stream record equals, field for field, the current record and generation of the valid window it names,
in the context its master is bound to (R33). -/
def StreamsCurrent (s : State) : Prop :=
  ∀ m : Master, ∀ r ∈ s.stream m,
    (s.slot r.ctx r.win.index).image.valid = true ∧
    r.win = (s.slot r.ctx r.win.index).copy r.win.index ∧
    s.binding m = some r.ctx

/-! ## Lookups -/

/-- The lookup is the one its master's record waits for (R34, R48). -/
def Lookup.belongsTo (l : Lookup) (r : Request) : Prop :=
  r.state = .lookup ∧ r.ops = [] ∧ l.ctx = r.ctx ∧
  (match l.label with
    | .second =>
      l.granule.toNat = granule2 r.addr r.sizeM1 ∧ r.part1.status ≠ .waiting ∧
      ∃ p ∈ r.part2, p.status = .waiting
    | .first => l.granule.toNat = granule1 r.addr ∧ r.part1.status = .waiting ∧ r.part1.label = .first ∧ r.part2 = none
    | .only => l.granule.toNat = granule1 r.addr ∧ r.part1.status = .waiting ∧ r.part1.label = .only ∧ r.part2 = none)

/-- The lookup being served, unless it is abandoned. -/
def Engine.live : Engine → Option Lookup
  | .idle => none
  | .searching v => if v.abandoned then none else some v.lookup
  | .repeating v => if v.abandoned then none else some v.lookup

/-- The lookups that stand for a request: those waiting, and the one being served unless it is abandoned. -/
def State.lookups (s : State) : List Lookup := s.waitList ++ s.engine.live.toList

/-- Each lookup belongs to the LOOKUP record of its master, a master has at most one, and a record in LOOKUP has one
(R34, R48). -/
def LookupsMatchRecords (s : State) : Prop :=
  ((s.lookups).map (·.master)).Nodup ∧
  (∀ l ∈ s.lookups, ∃ r ∈ s.record l.master, l.belongsTo r) ∧
  (∀ m : Master, ∀ r ∈ s.record m, r.state = .lookup → ∃ l ∈ s.lookups, l.master = m)

/-- While a repeated search runs, the captured version is the current one (R39). -/
def RepeatsAreCurrent (s : State) : Prop :=
  match s.engine with
  | .idle => True
  | .searching _ => True
  | .repeating v => v.captured = s.version v.lookup.ctx

/-- A channel whose CRSTm# is held asserted has no request, no stream record and no lookup but an abandoned one
(R41, R64). -/
def ResetChannelsQuiet (s : State) : Prop :=
  ∀ m : Master, (s.channel m).crst = true →
    s.record m = none ∧ s.stream m = none ∧ ∀ l ∈ s.lookups, l.master ≠ m

/-! ## Posted Write Queue -/

/-- The PWQ never holds more than 8 entries, no two of one number, and its entries were granted tags in the order in
which they joined: none is ISSUED behind a QUEUED one (R97). -/
def PwqInOrder (s : State) : Prop :=
  s.pwq.length ≤ Config.pwqCapacity ∧
  (s.pwq.map (·.id)).Nodup ∧
  (∀ e ∈ s.pwq, e.id < s.nextEntry) ∧
  s.pwq.Pairwise fun e e' => e'.state ≠ .queued → e.state ≠ .queued

/-! ## Tags -/

/-- No physical word is held by more than one tag (R117). -/
def WordsHeldOnce (s : State) : Prop :=
  ∀ t u : TagNo, t ≠ u → (s.tag t).state.holds ≠ none → (s.tag t).state.holds ≠ (s.tag u).state.holds

/-- No tag is LIVE while a clear runs (R112, R115, R119, R129). -/
def ClearHasNoLiveTag (s : State) : Prop := s.port.back = .normal ∨ s.anyLive = false

/-- Tag t carries this work of this owner. -/
def State.carries (s : State) (t : TagNo) (word : WordAddr) (work : Work) (owner : Owner) : Prop :=
  match (s.tag t).state with
  | .free => False
  | .quarantined _ => False
  | .live l => l.word = word ∧ l.work = work ∧ l.owner = owner

/-- ISSUED work holds a LIVE tag that names it, with its word, kind and phase, and a LIVE tag of a request or of the
PWQ is held by such work (R77, R99, R116, R120). -/
def TagsMatchWork (s : State) : Prop :=
  (∀ m : Master, ∀ r ∈ s.record m, ∀ o ∈ r.ops, ∀ t : TagNo, o.state = .issued t →
    s.carries t o.word o.work (.request m o.label)) ∧
  (∀ e ∈ s.pwq, ∀ t : TagNo, e.state = .issued t → s.carries t e.word e.work .pwqEntry) ∧
  (s.pwq.Pairwise fun e e' => ∀ t : TagNo, e.state = .issued t → e'.state ≠ .issued t) ∧
  (∀ t : TagNo,
    match (s.tag t).state with
    | .free => True
    | .quarantined _ => True
    | .live l =>
      match l.owner with
      | .orphan _ => True
      | .pwqEntry => ∃ e ∈ s.pwq, e.state = .issued t
      | .request m _ => ∃ r ∈ s.record m, ∃ o ∈ r.ops, o.state = .issued t)

/-- No PENDING operation and no oldest QUEUED entry waits for a word that a QUARANTINED tag holds (R74, R101). -/
def NothingWaitsOnQuarantine (s : State) : Prop :=
  (∀ m : Master, ∀ r ∈ s.record m, ∀ o ∈ r.ops, o.state = .pending → s.quarantinedBy o.word = none) ∧
  (∀ e ∈ s.oldestQueued, s.quarantinedBy e.word = none)

/-! ## Records and drains -/

/-- Each word operation of a record was made from a part of it: it carries the captured context, and the label, window
index and generation of the part (R67, R68). -/
def OpsMatchParts (s : State) : Prop :=
  ∀ m : Master, ∀ r ∈ s.record m, ∀ o ∈ r.ops,
    o.ctx = r.ctx ∧ ∃ p ∈ r.parts, p.label = o.label ∧ ∃ w ∈ p.copy, w.index = o.winIx ∧ w.gen = o.gen

/-- Tag t is LIVE with an orphan's work. -/
def State.orphanOn (s : State) (t : TagNo) : Prop :=
  match (s.tag t).state with
  | .free => False
  | .quarantined _ => False
  | .live l =>
    match l.owner with
    | .orphan _ => True
    | .request _ _ => False
    | .pwqEntry => False

/-- What the member stands for is still in the part (R143, R144). -/
def State.standsFor (s : State) : Member → Prop
  | .request m true entries orphans => entries = [] ∧ orphans = [] ∧ s.record m ≠ none
  | .request _ false entries orphans =>
    (entries ≠ [] ∨ orphans ≠ []) ∧ (∀ id ∈ entries, ∃ e ∈ s.pwq, e.id = id) ∧ (∀ t ∈ orphans, s.orphanOn t)
  | .entry id => ∃ e ∈ s.pwq, e.id = id
  | .orphan t => s.orphanOn t

/-- Every member of a drain set stands for work that has not ended (R143, R144). -/
def DrainMembersStand (s : State) : Prop :=
  match s.drain.state with
  | .idle => True
  | .draining _ members => ∀ x ∈ members, s.standsFor x

/-- A DRAINING tracker has at least one member and at most 18 (R139, R145). -/
def DrainSetBounded (s : State) : Prop :=
  match s.drain.state with
  | .idle => True
  | .draining _ members => members ≠ [] ∧ members.length ≤ 18

/-- A drain of the replaced generation g of slot c.w runs, and one of its members satisfies p. -/
def State.drainsWith (s : State) (c : Ctx) (w : WinIx) (g : BitVec 8) (p : Member → Prop) : Prop :=
  match s.drain.state with
  | .idle => False
  | .draining job members => job = .commit c w g ∧ ∃ x ∈ members, p x

/-- The member stands for the request held in record m. -/
def Member.isRequestOf (m : Master) : Member → Prop
  | .request m' held _ _ => m' = m ∧ held = true
  | .entry _ => False
  | .orphan _ => False

/-- The member stands for PWQ entry id, itself or within the request it was made from (R143). -/
def Member.countsEntry (id : Nat) : Member → Prop
  | .request _ _ entries _ => id ∈ entries
  | .entry id' => id' = id
  | .orphan _ => False

/-- The member stands for the orphan on tag t, itself or within the request it was made from (R143). -/
def Member.countsOrphan (t : TagNo) : Member → Prop
  | .request _ _ _ orphans => t ∈ orphans
  | .entry _ => False
  | .orphan t' => t' = t

/-- Every request part, word operation, PWQ entry and orphan that carries a generation other than the current one of
its window belongs to a member of the DRAINING drain of that window (R141). -/
def OldGenerationsDrain (s : State) : Prop :=
  (∀ m : Master, ∀ r ∈ s.record m, ∀ p ∈ r.parts, ∀ w ∈ p.copy, w.gen ≠ (s.slot r.ctx w.index).gen →
    s.drainsWith r.ctx w.index w.gen (Member.isRequestOf m)) ∧
  (∀ m : Master, ∀ r ∈ s.record m, ∀ o ∈ r.ops, o.gen ≠ (s.slot o.ctx o.winIx).gen →
    s.drainsWith o.ctx o.winIx o.gen (Member.isRequestOf m)) ∧
  (∀ e ∈ s.pwq, e.gen ≠ (s.slot e.ctx e.winIx).gen →
    s.drainsWith e.ctx e.winIx e.gen (Member.countsEntry e.id)) ∧
  (∀ t : TagNo,
    match (s.tag t).state with
    | .free => True
    | .quarantined _ => True
    | .live l =>
      match l.owner with
      | .request _ _ => True
      | .pwqEntry => True
      | .orphan o =>
        o.gen ≠ (s.slot o.ctx o.winIx).gen → s.drainsWith o.ctx o.winIx o.gen (Member.countsOrphan t))

/-! ## The Fault Log -/

/-- The log never holds more than 16 records, and its records stand oldest first with strictly increasing numbers,
counted modulo 65536 from the oldest (R162). -/
def LogOrdered (s : State) : Prop :=
  s.log.records.length ≤ Config.logCapacity ∧
  ∀ oldest ∈ s.log.records.head?,
    s.log.records.Pairwise fun a b => seqDistance a.seq oldest.seq < seqDistance b.seq oldest.seq

/-! ## Power-on reset -/

/-- While PORST# is asserted every block stands at its power-on value; only the input lines may differ
(R66, R171, R179). -/
def PowerOnHolds (s : State) : Prop :=
  s.porst = true →
    s.windows = State.reset.windows ∧ s.staging = State.reset.staging ∧ s.bindings = State.reset.bindings ∧
    s.streams = State.reset.streams ∧ s.waitList = [] ∧ s.engine = .idle ∧ s.records = State.reset.records ∧
    s.pwq = [] ∧ s.port = State.reset.port ∧ s.drain = State.reset.drain ∧ s.log = State.reset.log ∧
    s.link.buffer = none ∧
    (∀ m : Master, (s.channel m).taken = false ∧ (s.channel m).serial = 0) ∧
    ∀ shown : Option Response, s.link.period ≠ .running shown

/-- All the laws together. -/
def Safe (s : State) : Prop :=
  WindowsSeparate s ∧ StreamsCurrent s ∧ LookupsMatchRecords s ∧ RepeatsAreCurrent s ∧ ResetChannelsQuiet s ∧
  PwqInOrder s ∧ WordsHeldOnce s ∧ ClearHasNoLiveTag s ∧ TagsMatchWork s ∧ NothingWaitsOnQuarantine s ∧
  DrainSetBounded s ∧ OpsMatchParts s ∧ DrainMembersStand s ∧ OldGenerationsDrain s ∧ LogOrdered s ∧
  PowerOnHolds s

/-! ## Words for the statements: conditions and messages of the spec, spelled out -/

/-- Channel m takes an offer: record m is IDLE, no offer once taken still stands, and neither CRSTm# nor PORST# is
asserted (R47, R66). -/
def State.mayAccept (s : State) (m : Master) : Prop :=
  s.porst = false ∧ (s.channel m).crst = false ∧ (s.channel m).taken = false ∧ s.record m = none

/-- The channels when channel m has taken offer o: hold-off "taken", the serial counter one on (R47, R50). -/
def State.takenChannels (s : State) (m : Master) (o : Offer) : Vector Channel 4 :=
  s.channels.set m
    { offer := some o, taken := true, crst := (s.channel m).crst, serial := (s.channel m).serial + 1 }

/-- Nothing is sent but this reply, on the reply path of channel m (R58). -/
def sentReply (m : Master) (r : Reply) : Out :=
  { replies := (Vector.replicate 4 none).set m (some r), command := none, mdo := none }

/-- Nothing is sent but this command, on the command path (R113). -/
def sentCommand (c : MemCommand) : Out := { replies := Vector.replicate 4 none, command := some c, mdo := none }

/-- Stream record m does not give granule g of context c: it is absent, of another context, or its run does not
contain g (R30). -/
def State.missesStream (s : State) (m : Master) (c : Ctx) (g : Nat) : Prop :=
  ∀ r ∈ s.stream m, ¬ (r.ctx = c ∧ r.win.start.toNat ≤ g ∧ g ≤ r.win.start.toNat + r.win.lenM1.toNat)

/-- The window's run contains granule g (R3). -/
def WinCopy.contains (w : WinCopy) (g : Nat) : Prop :=
  w.start.toNat ≤ g ∧ g ≤ w.start.toNat + w.lenM1.toNat

/-- The word of logical address a through the window (R3, R27). -/
def WinCopy.wordOf (w : WinCopy) (a : LogAddr) : WordAddr :=
  BitVec.ofNat 29 ((w.base.toNat * 256 + (a.toNat - w.start.toNat * 256)) / 8)

/-- The words of an ONLY part of n bytes at a, each with its mask and its lanes (R67, R71). -/
def WinCopy.onlyShapes (w : WinCopy) (a : LogAddr) (n : Nat) : List (WordAddr × Run × Run) :=
  let p := a.toNat % 8
  if p + n ≤ 8 then [(w.wordOf a, ⟨p, n⟩, ⟨0, n⟩)]
  else [(w.wordOf a, ⟨p, 8 - p⟩, ⟨0, 8 - p⟩), (w.wordOf a + 1, ⟨0, p + n - 8⟩, ⟨8 - p, p + n - 8⟩)]

/-- The numbers of the PWQ entries for the word (R73). -/
def State.entriesFor (s : State) (word : WordAddr) : List Nat := (s.pwq.filter fun e => e.word = word).map (·.id)

/-- The PENDING READ operations of an ONLY part of size n at a, with their snapshots (R67, R69, R71, R73). -/
def State.onlyReads (s : State) (c : Ctx) (w : WinCopy) (a : LogAddr) (n : Nat) : List WordOp :=
  (w.onlyShapes a n).map fun (word, mask, lanes) =>
    { label := .only, ctx := c, winIx := w.index, gen := w.gen, word := word, mask := mask, lanes := lanes
      data := Bytes8.zero, work := .read, state := .pending, snapshot := s.entriesFor word }

/-- An ONLY part that was found TRANSLATED through w (R26, R27, R73). -/
def State.onlyPart (s : State) (w : WinCopy) (a : LogAddr) (n : Nat) : Part :=
  { label := .only, lanes := ⟨0, n⟩, status := .translated, copy := some w
    snapshot := (s.pwq.filter fun e => ((w.onlyShapes a n).map (·.1)).contains e.word).map (·.id) }

/-- The PENDING operations of a WRITE's ONLY part of size n at a, its lanes as given, with their snapshots
(R67, R69, R71, R73). -/
def State.onlyWrites (s : State) (c : Ctx) (w : WinCopy) (a : LogAddr) (n : Nat) (lanesOf : Bytes8) : List WordOp :=
  (w.onlyShapes a n).map fun (word, mask, lanes) =>
    { label := .only, ctx := c, winIx := w.index, gen := w.gen, word := word, mask := mask, lanes := lanes
      data := placeLanes mask lanes lanesOf, work := if mask.len = 8 then .write else .rmw .readPhase
      state := .pending, snapshot := s.entriesFor word }

/-- The lanes of a part of an access of n bytes at a: the boundary of two parts is the next granule (R26). -/
def partRun (label : Label) (a : LogAddr) (n : Nat) : Run :=
  let k := (a.toNat / 256 + 1) * 256 - a.toNat
  match label with
  | .only => ⟨0, n⟩
  | .first => ⟨0, k⟩
  | .second => ⟨k, n - k⟩

/-- The words of a part of an access of n bytes at a, each with its mask and its lanes (R26, R67, R71). -/
def WinCopy.places (w : WinCopy) (label : Label) (a : LogAddr) (n : Nat) : List (WordAddr × Run × Run) :=
  let boundary := (a.toNat / 256 + 1) * 256
  let k := boundary - a.toNat
  match label with
  | .only => w.onlyShapes a n
  | .first => [(w.wordOf a, ⟨a.toNat % 8, k⟩, ⟨0, k⟩)]
  | .second =>
    [(BitVec.ofNat 29 ((w.base.toNat * 256 + (boundary - w.start.toNat * 256)) / 8), ⟨0, n - k⟩, ⟨k, n - k⟩)]

/-- A part of request r for which window w was found: TRANSLATED with the entries for its words, or DENIED
(R27, R28, R73). -/
def State.foundPart (s : State) (r : Request) (label : Label) (w : WinCopy) : Part :=
  { label := label, lanes := partRun label r.addr (r.sizeM1.toNat + 1)
    status := if w.permits r.kind then .translated else .denied
    copy := some w
    snapshot := if w.permits r.kind then
        (s.pwq.filter fun e =>
          ((w.places label r.addr (r.sizeM1.toNat + 1)).map (·.1)).contains e.word).map (·.id)
      else [] }

/-- A part of request r for which no window was found (R38). -/
def missedPart (r : Request) (label : Label) : Part :=
  { label := label, lanes := partRun label r.addr (r.sizeM1.toNat + 1), status := .unmapped, copy := none
    snapshot := [] }

/-- A part of request r that waits for its translation (R26, R31). -/
def waitingPart (r : Request) (label : Label) : Part :=
  { label := label, lanes := partRun label r.addr (r.sizeM1.toNat + 1), status := .waiting, copy := none
    snapshot := [] }

/-- The log when a part of request r of master m was found through w: a DENIED record where the right is missing
(R28, R44). -/
def deniedUnless (log : FaultLog) (m : Master) (r : Request) (label : Label) (w : WinCopy) : FaultLog :=
  if w.permits r.kind then log
  else log.handIn
    { kind := .denied, cause := none
      req := some { master := m, ctx := some r.ctx, serial := r.serial, dir := r.kind, addr := r.addr
                    sizeM1 := r.sizeM1, label := label }
      winIx := some w.index, word := none, opKind := none, tag := none }

/-- The log when no window was found for a part of request r of master m: an UNMAPPED record (R38, R44). -/
def unmappedIn (log : FaultLog) (m : Master) (r : Request) (label : Label) : FaultLog :=
  log.handIn
    { kind := .unmapped, cause := none
      req := some { master := m, ctx := some r.ctx, serial := r.serial, dir := r.kind, addr := r.addr
                    sizeM1 := r.sizeM1, label := label }
      winIx := none, word := none, opKind := none, tag := none }

/-- The word operations of request r, PENDING: for each part its words in lane order, each with the part's window
index and generation and, of the part's snapshot, the entries for its word (R67 to R73). -/
def State.translatedOps (s : State) (r : Request) : List WordOp :=
  r.parts.flatMap fun p =>
    match p.copy with
    | none => []
    | some w =>
      (w.places p.label r.addr (r.sizeM1.toNat + 1)).map fun (word, mask, lanes) =>
        { label := p.label, ctx := r.ctx, winIx := w.index, gen := w.gen, word := word, mask := mask, lanes := lanes
          data := match r.kind with
            | .read => Bytes8.zero
            | .write => placeLanes mask lanes r.data
          work := match r.kind with
            | .read => .read
            | .write => if mask.len = 8 then .write else .rmw .readPhase
          state := .pending
          snapshot := p.snapshot.filter fun id => s.pwq.any fun e => e.id == id && e.word == word }

/-- Every part of the request is TRANSLATED, with its window copy (R27). -/
def Request.translated (r : Request) : Prop := ∀ p ∈ r.parts, p.status = .translated ∧ p.copy ≠ none

/-- The entries of a posted WRITE of master m, numbered from the next number on, lane 0's first (R57, R96). -/
def State.postedEntries (s : State) (m : Master) (r : Request) : List Entry :=
  (s.translatedOps r).mapIdx fun i o =>
    { id := s.nextEntry + i, master := m, serial := r.serial, ctx := r.ctx, addr := r.addr, sizeM1 := r.sizeM1
      label := o.label, winIx := o.winIx, gen := o.gen, word := o.word, mask := o.mask, data := o.data
      work := o.work, state := .queued }

/-- The WRITE is posted: every part's window is POSTED, and the queue has a place for each operation (R56). -/
def State.posts (s : State) (r : Request) : Prop :=
  (∀ p ∈ r.parts, ∀ w ∈ p.copy, w.posting = .posted) ∧ s.pwq.length + (s.translatedOps r).length ≤ 8

/-- The search for lookup v completes in command c and delivers: a first attempt whose version is current, or a
repeated search, not abandoned (R38, R39, R41). -/
def State.delivers (s : State) (c : Instr) (v : Served) : Prop :=
  (c = .searchCompletion ∧ s.engine = .searching v ∧ v.captured = s.version v.lookup.ctx ∨
    c = .repeatedSearchCompletion ∧ s.engine = .repeating v) ∧
  v.abandoned = false

/-- Slot w of context c is the one valid window that contains the granule (R37). -/
def State.holdsGranule (s : State) (c : Ctx) (w : WinIx) (g : Nat) : Prop :=
  (s.slot c w).image.valid = true ∧ ((s.slot c w).copy w).contains g ∧
  ∀ u : WinIx, u ≠ w → (s.slot c u).image.valid = true → ¬ ((s.slot c u).copy u).contains g

/-- No valid window of context c contains the granule (R37). -/
def State.lacksGranule (s : State) (c : Ctx) (g : Nat) : Prop :=
  ∀ u : WinIx, (s.slot c u).image.valid = true → ¬ ((s.slot c u).copy u).contains g

/-- The stream records after window x of context c was delivered for master m: loaded where the context is the
binding (R32). -/
def State.loaded (s : State) (m : Master) (c : Ctx) (x : WinCopy) : Vector (Option StreamRec) 4 :=
  if s.binding m = some c then s.streams.set m (some { ctx := c, win := x }) else s.streams

/-- A PENDING operation of master m's request is ready: the five conditions of R72, the fence on the master's own
entries (R107) and the snapshot (R73) among them. -/
def State.readyFor (s : State) (m : Master) (r : Request) (o : WordOp) : Prop :=
  o.state = .pending ∧ r.state ≠ .lookup ∧ (∀ e ∈ s.pwq, e.master ≠ m) ∧
  (∀ id ∈ o.snapshot, ∀ e ∈ s.pwq, e.id ≠ id) ∧
  (∀ t : TagNo, (∀ l : LiveWork, (s.tag t).state = .live l → l.word ≠ o.word) ∧
    (s.tag t).state ≠ .quarantined o.word) ∧
  s.port.back = .normal

/-- Entry e is offered: the oldest QUEUED entry, its word held by no tag, the back port NORMAL (R99). -/
def State.offers (s : State) (e : Entry) : Prop :=
  (∃ older newer : List Entry, s.pwq = older ++ e :: newer ∧ ∀ x ∈ older, x.state ≠ .queued) ∧ e.state = .queued ∧
  (∀ t : TagNo, (∀ l : LiveWork, (s.tag t).state = .live l → l.word ≠ e.word) ∧
    (s.tag t).state ≠ .quarantined e.word) ∧
  s.port.back = .normal

/-- The record is stored: room for it, and its distance from the oldest exceeds the newest's (R162). -/
def FaultLog.hasRoom (l : FaultLog) : Prop :=
  l.records.length < 16 ∧
  ∀ oldest ∈ l.records.head?, ∀ newest ∈ l.records.getLast?,
    (newest.seq - oldest.seq).toNat < (l.next - oldest.seq).toNat

/-- A byte from fields of given widths and values, the most significant first. -/
def packed (fields : List (Nat × Nat)) : Byte :=
  BitVec.ofNat 8 (fields.foldl (fun acc f => acc * 2 ^ f.1 + f.2 % 2 ^ f.1) 0)

/-- The value in `count` bytes, the most significant first (section 10.4). -/
def bigEndian (count value : Nat) : List Byte :=
  (List.range count).map fun i => BitVec.ofNat 8 (value / 256 ^ (count - 1 - i))

/-- The target byte of a drain (Table 10-7, byte 5). -/
def targetCode : Target → Byte
  | .commit c w => packed [(1, 0), (3, c.val), (4, w.val)]
  | .bind m => packed [(6, 0), (2, m.val)]

/-- The two bits of a tag state: 00 FREE, 01 LIVE, 10 QUARANTINED (Table 10-7). -/
def tagCode : TagState → Nat × Nat
  | .free => (2, 0)
  | .live _ => (2, 1)
  | .quarantined _ => (2, 2)

/-- The request fields of a fault record for a part of request r of master m (R156). -/
def faultFields (m : Master) (r : Request) (label : Label) : ReqFields :=
  { master := m, ctx := some r.ctx, serial := r.serial, dir := r.kind, addr := r.addr, sizeM1 := r.sizeM1
    label := label }

/-- The request fields of a fault record for an offer taken from m under context c (R156). -/
def offerFields (m : Master) (c : Ctx) (serial : BitVec 8) (o : Offer) (label : Label) : ReqFields :=
  { master := m, ctx := some c, serial := serial, dir := o.kind, addr := o.addr, sizeM1 := o.sizeM1, label := label }

/-- The port when tag t has become FREE: its word is released, its last word stays (R116, R125). -/
def State.portFreed (s : State) (t : TagNo) : Port :=
  { s.port with tags := s.port.tags.set t { state := .free, lastWord := (s.tag t).lastWord } }

/-- The port when a command is sent on tag t: LIVE with this work, its last word the command's, its count the current
deadline value (R81, R120). -/
def State.portLive (s : State) (t : TagNo) (word : WordAddr) (work : Work) (owner : Owner) : Port :=
  let live : Tag :=
    { state := .live { word := word, work := work, owner := owner, count := s.port.deadline }, lastWord := word }
  { s.port with tags := s.port.tags.set t live }

/-- The state after a period of the link: MSEL# deasserted, the buffer as given, and MDO having shown the response that
stood at the assertion (R167, R168). -/
def State.afterPeriod (s : State) (bytes tail : Nat) (buffer : Option Response) : State :=
  { s with
    link := { buffer := buffer, period := .none }
    out := { replies := Vector.replicate 4 none, command := none, mdo := some (mdoOver s.link.shown bytes tail) } }

/-- The command takes one period of n bytes, is answered this status with no result bytes, and changes nothing else
(R169). -/
def State.answersBare (s : State) (c : Instr) (n : Nat) (st : RespStatus) : Prop :=
  exec c s = .next (s.afterPeriod n 0 (some { status := st, result := [] }))

/-- A repeated search for context c runs (R15, R39). -/
def State.repeatsFor (s : State) (c : Ctx) : Prop := ∃ v : Served, s.engine = .repeating v ∧ v.lookup.ctx = c

/-- The image's logical run or its physical run ends past its space (R16). -/
def Image.runsPast (i : Image) : Prop :=
  65536 < i.start.toNat + (i.lenM1.toNat + 1) ∨ 16777216 < i.base.toNat + (i.lenM1.toNat + 1)

/-- The staged run shares a granule with a valid window of context c other than slot w: s < s' + L' and s' < s + L
(R17). -/
def State.stagedShares (s : State) (c : Ctx) (w : WinIx) : Prop :=
  ∃ v : WinIx, v ≠ w ∧ (s.slot c v).image.valid = true ∧
    s.staging.image.start.toNat < (s.slot c v).image.start.toNat + ((s.slot c v).image.lenM1.toNat + 1) ∧
    (s.slot c v).image.start.toNat < s.staging.image.start.toNat + (s.staging.image.lenM1.toNat + 1)

/-- The link judges the period that ends: PORST# is not asserted, and did not meet the period (R171). -/
def State.judgesPeriod (s : State) : Prop := s.porst = false ∧ ∀ shown : Option Response, s.link.period ≠ .ignored shown

/-- A DRAINING drain of this job has a member that satisfies p. -/
def State.drainCounts (s : State) (job : DrainJob) (p : Member → Prop) : Prop :=
  ∃ members : List Member, s.drain.state = .draining job members ∧ ∃ x ∈ members, p x

/-- From s to t no member leaves the drain of s before the last of its work has ended: a request while its record
holds it, then the qualifying entries or orphans made from it in the step, an entry while it stands in the queue, an
orphan while it holds its tag (R143, R144). -/
def DrainKeepsWork (s t : State) : Prop :=
  ∀ (job : DrainJob) (members : List Member), s.drain.state = .draining job members →
    (∀ m : Master, (∃ x ∈ members, x.isRequestOf m) →
      (t.record m ≠ none → t.drainCounts job (Member.isRequestOf m)) ∧
      (∀ e ∈ t.pwq, e.master = m → (∀ e' ∈ s.pwq, e'.id ≠ e.id) →
        job.matchesWork e.master e.ctx e.winIx e.gen = true → t.drainCounts job (Member.countsEntry e.id)) ∧
      (∀ (k : TagNo) (l : LiveWork) (o : Orphan), (t.tag k).state = .live l → l.owner = .orphan o → o.master = m →
        ¬ s.orphanOn k → job.matchesWork o.master o.ctx o.winIx o.gen = true →
        t.drainCounts job (Member.countsOrphan k))) ∧
    (∀ id : Nat, (∃ x ∈ members, x.countsEntry id) → (∃ e ∈ t.pwq, e.id = id) →
      t.drainCounts job (Member.countsEntry id)) ∧
    (∀ k : TagNo, (∃ x ∈ members, x.countsOrphan k) → t.orphanOn k → t.drainCounts job (Member.countsOrphan k))

/-- The place of a source in the order M0, M1, M2, M3, PWQ (R118). -/
def Source.place : Source → Nat
  | .master m => m.val
  | .pwq => 4

/-- The turns from the pointer to the source: 0 for the source after it, 4 for the pointer's own (R118). -/
def Source.turns (pointer src : Source) : Nat := (src.place + 5 - (pointer.place + 1)) % 5

end Sys2Proof.Machine
end

