-- ==== Sys2Proof/Certificates/Slice0/Obligations.lean ====
section
/-! DEFINITION. The statements for the provers. OBLIGATIONS.json lists them with the rules they rest on. -/

open Sys2Proof Sys2Proof.Machine

/-! ## The queue and the reset values -/

/-- A step is the front command's effect on the state with the queue's rest; on an empty queue the part idles (the
model's choice, notes/assumptions/1.md). -/
def Obligations.StepRunsFrontCommand : Prop :=
  (∀ (c : Instr) (rest : List Instr) (s : State), s.pending = c :: rest →
    step s = exec c { s with pending := rest }) ∧
  (∀ s : State, s.pending = [] → step s = .next s)

/-- Every command ends in a next state, and leaves the queue to `step`. One whose event cannot occur in the state, or
whose operands no message can carry, has no effect but that nothing is sent (the model's choice,
notes/assumptions/3.md, 8.md and 20.md). -/
def Obligations.EveryCommandAnswersNext : Prop :=
  (∀ (c : Instr) (s : State), ∃ t : State, exec c s = .next t ∧ t.pending = s.pending) ∧
  (∀ (c : Instr) (s : State),
    (c = .searchBegin ∧ (s.engine ≠ .idle ∨ s.waitList = []) ∨
      c = .searchCompletion ∧ (∀ v : Served, s.engine ≠ .searching v) ∨
      c = .repeatedSearchCompletion ∧ (∀ v : Served, s.engine ≠ .repeating v) ∨
      (∃ t : TagNo, c = .deadlineExpiry t ∧ ∀ l : LiveWork, (s.tag t).state ≠ .live l) ∨
      c = .clearDeadlineExpiry ∧ s.port.back = .normal ∨
      (∃ m : Master, c = .offerRemoval m ∧ (s.channel m).taken = false) ∨
      c = .mselAssertion ∧ s.link.period ≠ .none ∨
      (∃ edges : Nat, c = .shortPeriod edges ∧ 8 ≤ edges) ∨
      (∃ tail : Nat, c = .readPeriod 0 tail) ∨
      (∃ (code : Byte) (f : Frame), c = .badcmd code f ∧
        code ∈ [0x00, 0x01, 0x10, 0x11, 0x12, 0x20, 0x21, 0x22, 0x30, 0x40, (0x41 : Byte)])) →
    exec c s = .next { s with out := Out.quiet })

/-- The values that the spec gives every block after power-on reset, once PORST# is released (the moment that
`State.reset` stands for is the model's choice, notes/assumptions/4.md). -/
def Obligations.ResetHoldsPowerOnValues : Prop :=
  (∀ (c : Ctx) (w : WinIx), State.reset.slot c w =
    { image := { valid := false, start := 0, lenM1 := 0, base := 0, readOk := false, writeOk := false
                 posting := .strict }
      gen := 0 }) ∧
  (∀ c : Ctx, State.reset.version c = 0) ∧
  State.reset.staging =
    { image := { valid := false, start := 0, lenM1 := 0, base := 0, readOk := false, writeOk := false
                 posting := .strict }
      loaded := false } ∧
  (∀ m : Master, State.reset.binding m = none ∧ State.reset.stream m = none ∧ State.reset.record m = none ∧
    (State.reset.channel m).serial = 0 ∧ (State.reset.channel m).taken = false) ∧
  State.reset.waitList = [] ∧ State.reset.engine = .idle ∧ State.reset.pwq = [] ∧
  (∀ t : TagNo, State.reset.tag t = { state := .free, lastWord := 0 }) ∧
  State.reset.port.back = .normal ∧ State.reset.port.deadline = 64 ∧ State.reset.port.lastClear = .none ∧
  State.reset.port.pointer = .pwq ∧
  State.reset.drain = { state := .idle, last := none } ∧ State.reset.membersRemaining = 0 ∧
  State.reset.log = { records := [], next := 0 } ∧ State.reset.alert = false ∧
  State.reset.link.buffer = none

/-- The state after reset keeps every law of `Safe`. -/
def Obligations.ResetIsSafe : Prop := Safe State.reset

/-! ## Front channels (chapters 2, 3 and 6) -/

/-- A request accepted while its master is unbound replies UNBOUND at once, makes an UNBOUND record, and changes
nothing else but its channel (R51). -/
def Obligations.UnboundRequestReplies : Prop :=
  ∀ (m : Master) (o : Offer) (s : State), s.mayAccept m → s.binding m = none →
    exec (.requestAcceptance m o) s = .next { s with
      channels := s.takenChannels m o
      log := s.log.handIn
        { kind := .unbound, cause := none
          req := some { master := m, ctx := none, serial := (s.channel m).serial, dir := o.kind, addr := o.addr
                        sizeM1 := o.sizeM1, label := .only }
          winIx := none, word := none, opKind := none, tag := none }
      out := sentReply m { status := .unbound, posted := false, data := Bytes8.zero } }

/-- A bound request that misses the stream record enters LOOKUP, and its lookup joins the tail of the wait list. One
whose FIRST part hits a window that ends before the next granule has that part resolved, TRANSLATED or DENIED with its
record, and the lookup of its SECOND part joins the tail (R24, R26, R28, R30, R31, R34, R44, R49, R52). -/
def Obligations.StreamMissJoinsWaitList : Prop :=
  (∀ (m : Master) (o : Offer) (s : State) (c : Ctx) (label : Label), s.mayAccept m → s.binding m = some c →
    s.missesStream m c (o.addr.toNat / 256) →
    label = (if (o.addr.toNat + o.sizeM1.toNat) / 256 = o.addr.toNat / 256 then Label.only else Label.first) →
    exec (.requestAcceptance m o) s = .next { s with
      channels := s.takenChannels m o
      records := s.records.set m (some
        { state := .lookup, serial := (s.channel m).serial, kind := o.kind, addr := o.addr, sizeM1 := o.sizeM1
          data := recordedLanes o.kind o.sizeM1 o.lanes, ctx := c
          part1 := { label := label, lanes := partLanes label o.addr o.sizeM1, status := .waiting, copy := none
                     snapshot := [] }
          part2 := none, ops := [], gathered := Bytes8.zero })
      waitList := s.waitList ++
        [{ master := m, ctx := c, granule := BitVec.ofNat 16 (o.addr.toNat / 256), label := label }]
      out := Out.quiet }) ∧
  (∀ (m : Master) (o : Offer) (s : State) (x : StreamRec) (r : Request), s.mayAccept m → s.stream m = some x →
    s.binding m = some x.ctx → x.win.contains (o.addr.toNat / 256) →
    (o.addr.toNat + o.sizeM1.toNat) / 256 = o.addr.toNat / 256 + 1 → o.addr.toNat / 256 + 1 < 65536 →
    ¬ x.win.contains (o.addr.toNat / 256 + 1) →
    r = { state := .lookup, serial := (s.channel m).serial, kind := o.kind, addr := o.addr, sizeM1 := o.sizeM1
          data := recordedLanes o.kind o.sizeM1 o.lanes, ctx := x.ctx
          part1 := { label := .first, lanes := partRun .first o.addr (o.sizeM1.toNat + 1), status := .waiting
                     copy := none, snapshot := [] }
          part2 := none, ops := [], gathered := Bytes8.zero } →
    exec (.requestAcceptance m o) s = .next { s with
      channels := s.takenChannels m o
      records := s.records.set m (some { r with
        part1 := s.foundPart r .first x.win, part2 := some (waitingPart r .second) })
      waitList := s.waitList ++
        [{ master := m, ctx := x.ctx, granule := BitVec.ofNat 16 (o.addr.toNat / 256 + 1), label := .second }]
      log := deniedUnless s.log m r .first x.win
      out := Out.quiet })

/-- A READ that hits the stream record as an ONLY part, its right given and its words free of quarantine, enters HELD
with its one or two READ operations, their words, masks, lanes and snapshots; so does a WRITE through a STRICT window,
or one the queue has no places for, with its WRITE or RMW operations and their data. Any request whose last part was
found TRANSLATED, of one part or two, is HELD so unless it is posted; where a word of it is quarantined, its operations
are then judged (`judgeReadiness`: QuarantineFailsPending) (R30, R52, R53, R54, R56, R67, R69, R71, R73, R74). -/
def Obligations.StreamHitReadIsHeld : Prop :=
  (∀ (m : Master) (o : Offer) (s : State) (r : StreamRec), s.mayAccept m → s.stream m = some r →
      s.binding m = some r.ctx → o.kind = .read →
      r.win.contains (o.addr.toNat / 256) → r.win.contains ((o.addr.toNat + o.sizeM1.toNat) / 256) →
      (o.addr.toNat + o.sizeM1.toNat) / 256 < 65536 → r.win.readOk = true → (s.pwq.map (·.id)).Nodup →
      (∀ x ∈ r.win.onlyShapes o.addr (o.sizeM1.toNat + 1), s.quarantinedBy x.1 = none) →
      exec (.requestAcceptance m o) s = .next { s with
        channels := s.takenChannels m o
        records := s.records.set m (some
          { state := .held, serial := (s.channel m).serial, kind := .read, addr := o.addr, sizeM1 := o.sizeM1
            data := Bytes8.zero, ctx := r.ctx, part1 := s.onlyPart r.win o.addr (o.sizeM1.toNat + 1)
            part2 := none, ops := s.onlyReads r.ctx r.win o.addr (o.sizeM1.toNat + 1), gathered := Bytes8.zero })
        out := Out.quiet }) ∧
  (∀ (m : Master) (o : Offer) (s : State) (r : StreamRec), s.mayAccept m → s.stream m = some r →
    s.binding m = some r.ctx → o.kind = .write →
    r.win.contains (o.addr.toNat / 256) → r.win.contains ((o.addr.toNat + o.sizeM1.toNat) / 256) →
    (o.addr.toNat + o.sizeM1.toNat) / 256 < 65536 → r.win.writeOk = true →
    (r.win.posting = .strict ∨ 8 < s.pwq.length + (r.win.onlyShapes o.addr (o.sizeM1.toNat + 1)).length) →
    (s.pwq.map (·.id)).Nodup →
    (∀ x ∈ r.win.onlyShapes o.addr (o.sizeM1.toNat + 1), s.quarantinedBy x.1 = none) →
    exec (.requestAcceptance m o) s = .next { s with
      channels := s.takenChannels m o
      records := s.records.set m (some
        { state := .held, serial := (s.channel m).serial, kind := .write, addr := o.addr, sizeM1 := o.sizeM1
          data := recordedLanes .write o.sizeM1 o.lanes, ctx := r.ctx
          part1 := s.onlyPart r.win o.addr (o.sizeM1.toNat + 1), part2 := none
          ops := s.onlyWrites r.ctx r.win o.addr (o.sizeM1.toNat + 1) (recordedLanes .write o.sizeM1 o.lanes)
          gathered := Bytes8.zero })
      out := Out.quiet }) ∧
  (∀ (s : State) (m : Master) (r : Request), r.translated → (r.kind = .write → ¬ s.posts r) →
    (∀ o ∈ s.translatedOps r, s.quarantinedBy o.word = none) →
    s.completeTranslation m r = { s with
      records := s.records.set m (some { r with
        state := .held, ops := s.translatedOps r, gathered := Bytes8.zero }) }) ∧
  (∀ (s : State) (m : Master) (r : Request), r.translated → (r.kind = .write → ¬ s.posts r) →
    s.completeTranslation m r = State.judgeReadiness { s with
      records := s.records.set m (some { r with
        state := .held, ops := s.translatedOps r, gathered := Bytes8.zero }) } m)

/-- An access of one word that hits and would be held while its word is quarantined fails TIMEOUT in the event that
makes its operation, and its record is never ACTIVE. Any access that hits as an ONLY part is resolved in its acceptance
event, TRANSLATED or DENIED with its record, and its translation ends there (`completeTranslation`:
StreamHitReadIsHeld, PostedWriteJoinsQueue, FailureAtAcceptance) (R24, R28, R30, R43, R52, R54, R74). -/
def Obligations.QuarantinedWordFailsAtAcceptance : Prop :=
  (∀ (m : Master) (o : Offer) (s : State) (r : StreamRec) (t : TagNo), s.mayAccept m → s.stream m = some r →
    s.binding m = some r.ctx → r.win.contains (o.addr.toNat / 256) →
    o.addr.toNat % 8 + (o.sizeM1.toNat + 1) ≤ 8 →
    (o.kind = .read ∧ r.win.readOk = true ∨ o.kind = .write ∧ r.win.writeOk = true ∧ r.win.posting = .strict) →
    s.quarantinedBy (r.win.wordOf o.addr) = some t →
    exec (.requestAcceptance m o) s = .next { s with
      channels := s.takenChannels m o
      log := s.log.handIn
        { kind := .timeout, cause := none, req := some (offerFields m r.ctx (s.channel m).serial o .only)
          winIx := some r.win.index, word := some (r.win.wordOf o.addr)
          opKind := some (match o.kind with
            | .read => .read
            | .write => if o.sizeM1 = 7 then .write else .rmw)
          tag := some t }
      drain := s.drain.update fun _ => Member.afterReply m
      out := sentReply m { status := .timeout, posted := false, data := Bytes8.zero } }) ∧
  (∀ (m : Master) (o : Offer) (s : State) (x : StreamRec) (r r' : Request), s.mayAccept m → s.stream m = some x →
    s.binding m = some x.ctx → x.win.contains (o.addr.toNat / 256) →
    x.win.contains ((o.addr.toNat + o.sizeM1.toNat) / 256) → (o.addr.toNat + o.sizeM1.toNat) / 256 < 65536 →
    r = { state := .lookup, serial := (s.channel m).serial, kind := o.kind, addr := o.addr, sizeM1 := o.sizeM1
          data := recordedLanes o.kind o.sizeM1 o.lanes, ctx := x.ctx
          part1 := { label := .only, lanes := ⟨0, o.sizeM1.toNat + 1⟩, status := .waiting, copy := none
                     snapshot := [] }
          part2 := none, ops := [], gathered := Bytes8.zero } →
    r' = { r with part1 := s.foundPart r .only x.win } →
    exec (.requestAcceptance m o) s = .next (State.completeTranslation { s with
      channels := s.takenChannels m o
      records := s.records.set m (some r')
      log := deniedUnless s.log m r .only x.win
      out := Out.quiet } m r'))

/-- A WRITE that hits a POSTED window as an ONLY part and finds places in the PWQ is posted: its entries join the
tail, the reply is OK with posted yes, the record stays IDLE. So is any WRITE whose last part was found TRANSLATED, of
one part or two, when every part's window is POSTED and the queue has the places; the head of the queue is then judged
(`settleHead`: HeadUnderQuarantineFails) (R43, R53, R56, R57, R96, R98, R101). -/
def Obligations.PostedWriteJoinsQueue : Prop :=
  (∀ (m : Master) (o : Offer) (s : State) (r : StreamRec) (es : List Entry), s.mayAccept m → s.stream m = some r →
      s.binding m = some r.ctx → o.kind = .write →
      r.win.contains (o.addr.toNat / 256) → r.win.contains ((o.addr.toNat + o.sizeM1.toNat) / 256) →
      (o.addr.toNat + o.sizeM1.toNat) / 256 < 65536 → r.win.writeOk = true → r.win.posting = .posted →
      es = ((r.win.onlyShapes o.addr (o.sizeM1.toNat + 1)).mapIdx fun i (word, mask, lanes) =>
        { id := s.nextEntry + i, master := m, serial := (s.channel m).serial, ctx := r.ctx, addr := o.addr
          sizeM1 := o.sizeM1, label := .only, winIx := r.win.index, gen := r.win.gen, word := word, mask := mask
          data := placeLanes mask lanes (recordedLanes .write o.sizeM1 o.lanes)
          work := if mask.len = 8 then .write else .rmw .readPhase
          state := .queued }) →
      s.pwq.length + es.length ≤ 8 →
      (∀ e ∈ s.oldestQueued, s.quarantinedBy e.word = none) → (∀ e ∈ es, s.quarantinedBy e.word = none) →
      exec (.requestAcceptance m o) s = .next { s with
        channels := s.takenChannels m o
        pwq := s.pwq ++ es
        nextEntry := s.nextEntry + es.length
        drain := s.drain.update fun job => Member.afterPosting m (qualifyingEntries job es)
        out := sentReply m { status := .ok, posted := true, data := Bytes8.zero } }) ∧
  (∀ (s : State) (m : Master) (r : Request) (es : List Entry), r.kind = .write → r.translated → s.posts r →
    es = s.postedEntries m r →
    s.completeTranslation m r = State.settleHead { s with
      pwq := s.pwq ++ es
      nextEntry := s.nextEntry + es.length
      records := s.records.set m none
      drain := s.drain.update fun job => Member.afterPosting m (qualifyingEntries job es)
      out := { s.out with replies := s.out.replies.set m (some
        { status := .ok, posted := true, data := Bytes8.zero }) } })

/-- An access that hits the stream record and fails there replies at acceptance: DENIED for an ONLY part without the
right, with a record that names the window and no word; UNMAPPED for an access past FFFFFFh whose FIRST part has the
right, with a record for its SECOND part; and DENIED with both records where the FIRST part has not. Any request whose
last part is resolved with one DENIED or UNMAPPED replies the status of the lower-addressed failed part, and while a
part waits nothing happens to it (R25, R28, R43, R44, R52, R53, R59, R60, R160). -/
def Obligations.FailureAtAcceptance : Prop :=
  (∀ (m : Master) (o : Offer) (s : State) (r : StreamRec) (label : Label) (denied unmapped : FaultBody),
      s.mayAccept m → s.stream m = some r → s.binding m = some r.ctx → r.win.contains (o.addr.toNat / 256) →
      denied = { kind := .denied, cause := none, req := some (offerFields m r.ctx (s.channel m).serial o label)
                 winIx := some r.win.index, word := none, opKind := none, tag := none } →
      unmapped = { kind := .unmapped, cause := none, req := some (offerFields m r.ctx (s.channel m).serial o .second)
                   winIx := none, word := none, opKind := none, tag := none } →
      (o.addr.toNat + o.sizeM1.toNat ≤ 0xFFFFFF → r.win.contains ((o.addr.toNat + o.sizeM1.toNat) / 256) →
        label = .only → r.win.permits o.kind = false →
        exec (.requestAcceptance m o) s = .next { s with
          channels := s.takenChannels m o
          log := s.log.handIn denied
          drain := s.drain.update fun _ => Member.afterReply m
          out := sentReply m { status := .denied, posted := false, data := Bytes8.zero } }) ∧
      (0xFFFFFF < o.addr.toNat + o.sizeM1.toNat → label = .first →
        exec (.requestAcceptance m o) s = .next { s with
          channels := s.takenChannels m o
          log := if r.win.permits o.kind then s.log.handIn unmapped else (s.log.handIn denied).handIn unmapped
          drain := s.drain.update fun _ => Member.afterReply m
          out := sentReply m
            { status := if r.win.permits o.kind then .unmapped else .denied, posted := false, data := Bytes8.zero } })) ∧
  (∀ (s : State) (m : Master) (r : Request) (st : ReplyStatus), r.ops = [] →
    (∀ p ∈ r.part2, p.status ≠ .waiting) →
    (r.part1.status = .denied ∧ st = .denied ∨ r.part1.status = .unmapped ∧ st = .unmapped ∨
      r.part1.status = .translated ∧
        ∃ p ∈ r.part2, p.status = .denied ∧ st = .denied ∨ p.status = .unmapped ∧ st = .unmapped) →
    s.completeTranslation m r = { s with
      records := s.records.set m none
      drain := s.drain.update fun _ => Member.afterReply m
      out := { s.out with replies := s.out.replies.set m (some
        { status := st, posted := false, data := Bytes8.zero }) } }) ∧
  (∀ (s : State) (m : Master) (r : Request),
    (r.part1.status = .waiting ∨ ∃ p ∈ r.part2, p.status = .waiting) → s.completeTranslation m r = s)

/-- An offer that may not be taken waits on its channel; an offer once taken is not taken again while it stands; its
removal turns the hold-off to "not taken" (R47, R64, R181; how a waiting offer stands in the model:
notes/assumptions/6.md). -/
def Obligations.OffersWaitUntilRemoved : Prop :=
  ∀ (m : Master) (o : Offer) (s : State),
    (¬ s.mayAccept m → (s.channel m).taken = false →
      exec (.requestAcceptance m o) s = .next { s with
        channels := s.channels.set m { s.channel m with offer := some o }
        out := Out.quiet }) ∧
    ((s.channel m).taken = true →
      exec (.requestAcceptance m o) s = .next { s with out := Out.quiet } ∧
      exec (.offerRemoval m) s = .next { s with
        channels := s.channels.set m { s.channel m with offer := none, taken := false }
        out := Out.quiet })

/-- The assertion of CRSTm# with no request held: the stream record is absent, the channel closed, master m's lookup
leaves the list or is marked abandoned, and nothing else changes (R33, R41, R62, R64). That the hold-off of a taken
offer stays taken is the model's choice (notes/assumptions/7.md), and so is that CRSTm# asserted again acts so again
(notes/assumptions/3.md). -/
def Obligations.ChannelResetOfIdleRecord : Prop :=
  ∀ (m : Master) (s : State), s.record m = none →
    exec (.channelResetAssertion m) s = .next { s with
      channels := s.channels.set m { s.channel m with crst := true }
      streams := s.streams.set m none
      waitList := s.waitList.filter (·.master ≠ m)
      engine := (match s.engine with
        | .idle => .idle
        | .searching v => .searching { v with abandoned := v.abandoned || decide (v.lookup.master = m) }
        | .repeating v => .repeating { v with abandoned := v.abandoned || decide (v.lookup.master = m) })
      out := Out.quiet }

/-- The assertion of CRSTm# abandons the request: no reply, no record, and its ISSUED operations are orphans that keep
word, kind, phase and count of their tags; every other tag, the PWQ, the log, the bindings and the other channels are
left as they were; a lookup of m that is served is marked abandoned (R41, R62, R63, R68, R109, R135, R148). That the
hold-off of a taken offer stays taken is the model's choice (notes/assumptions/7.md), and so is that CRSTm# asserted
again acts so again (notes/assumptions/3.md). -/
def Obligations.ChannelResetMakesOrphans : Prop :=
  ∀ (m : Master) (s : State) (r : Request), s.record m = some r →
    ∃ t : State, exec (.channelResetAssertion m) s = .next t ∧
      t.record m = none ∧ t.out = Out.quiet ∧ t.stream m = none ∧
      t.channels = s.channels.set m { s.channel m with crst := true } ∧
      (∀ m' : Master, m' ≠ m → t.record m' = s.record m' ∧ t.stream m' = s.stream m') ∧
      (∀ (i : TagNo) (l : LiveWork) (label : Label) (o : WordOp), (s.tag i).state = .live l →
        l.owner = .request m label → r.opOnTag i = some o →
        t.tag i =
          { lastWord := (s.tag i).lastWord
            state := .live { l with owner := .orphan ⟨m, o.ctx, o.winIx, o.gen, o.data⟩ } }) ∧
      (∀ i : TagNo, (∀ (l : LiveWork) (label : Label), (s.tag i).state = .live l → l.owner ≠ .request m label) →
        t.tag i = s.tag i) ∧
      t.port.back = s.port.back ∧ t.port.deadline = s.port.deadline ∧ t.port.lastClear = s.port.lastClear ∧
      t.port.pointer = s.port.pointer ∧
      t.windows = s.windows ∧ t.staging = s.staging ∧ t.bindings = s.bindings ∧ t.pwq = s.pwq ∧
      t.nextEntry = s.nextEntry ∧ t.log = s.log ∧ t.link = s.link ∧ t.porst = s.porst ∧
      t.waitList = s.waitList.filter (·.master ≠ m) ∧ t.pending = s.pending ∧
      t.engine = (match s.engine with
        | .idle => .idle
        | .searching v => .searching { v with abandoned := v.abandoned || decide (v.lookup.master = m) }
        | .repeating v => .repeating { v with abandoned := v.abandoned || decide (v.lookup.master = m) }) ∧
      t.drain = s.drain.update fun job => Member.afterAbandonment m (qualifyingOrphans m r job)

/-! ## Translation by search (chapter 2) -/

/-- An IDLE engine takes the head of the wait list and captures its context's version. A first attempt that a commit
overtook is repeated under the current version and delivers nothing. An abandoned lookup is discarded at its
completion, repeated or not (R36, R38, R41). -/
def Obligations.SearchesBeginAndRepeat : Prop :=
  ∀ s : State,
    (∀ (l : Lookup) (rest : List Lookup), s.engine = .idle → s.waitList = l :: rest →
      exec .searchBegin s = .next { s with
        waitList := rest
        engine := .searching { lookup := l, captured := s.version l.ctx, abandoned := false }
        out := Out.quiet }) ∧
    (∀ v : Served, s.engine = .searching v → v.abandoned = false → v.captured ≠ s.version v.lookup.ctx →
      exec .searchCompletion s = .next { s with
        engine := .repeating { lookup := v.lookup, captured := s.version v.lookup.ctx, abandoned := false }
        out := Out.quiet }) ∧
    (∀ v : Served, v.abandoned = true →
      (s.engine = .searching v → exec .searchCompletion s = .next { s with engine := .idle, out := Out.quiet }) ∧
      (s.engine = .repeating v →
        exec .repeatedSearchCompletion s = .next { s with engine := .idle, out := Out.quiet }))

/-- A search for a READ's ONLY part that finds a window with the right delivers it: the stream record is loaded when
the context is the binding, and the record is HELD with its operations. Whatever part a search finds a window for, both
completions deliver it: the label is resolved, the part TRANSLATED or DENIED with its record, and the translation ends
(`completeTranslation`: StreamHitReadIsHeld, PostedWriteJoinsQueue, FailureAtAcceptance), unless a SECOND part is then
to be looked up, whose lookup joins the tail (R24, R25, R27, R28, R31, R32, R37, R38, R39, R43, R53, R54, R67, R73). -/
def Obligations.SearchDeliversWindow : Prop :=
  (∀ (s : State) (c : Instr) (v : Served) (m : Master) (r : Request) (w : WinIx) (x : WinCopy),
      (c = .searchCompletion ∧ s.engine = .searching v ∧ v.captured = s.version v.lookup.ctx ∨
        c = .repeatedSearchCompletion ∧ s.engine = .repeating v) →
      v.abandoned = false →
      v.lookup = { master := m, ctx := r.ctx, granule := BitVec.ofNat 16 (r.addr.toNat / 256), label := .only } →
      s.record m = some r → r.kind = .read → r.part2 = none →
      (r.addr.toNat + r.sizeM1.toNat) / 256 = r.addr.toNat / 256 →
      (s.slot r.ctx w).image.valid = true → x = (s.slot r.ctx w).copy w → x.contains (r.addr.toNat / 256) →
      (∀ u : WinIx, u ≠ w → (s.slot r.ctx u).image.valid = true →
        ¬ ((s.slot r.ctx u).copy u).contains (r.addr.toNat / 256)) →
      x.readOk = true → (s.pwq.map (·.id)).Nodup →
      (∀ y ∈ x.onlyShapes r.addr (r.sizeM1.toNat + 1), s.quarantinedBy y.1 = none) →
      exec c s = .next { s with
        engine := .idle
        streams := if s.binding m = some r.ctx then s.streams.set m (some { ctx := r.ctx, win := x }) else s.streams
        records := s.records.set m (some { r with
          state := .held
          part1 := s.onlyPart x r.addr (r.sizeM1.toNat + 1)
          ops := s.onlyReads r.ctx x r.addr (r.sizeM1.toNat + 1)
          gathered := Bytes8.zero })
        out := Out.quiet }) ∧
  (∀ (s : State) (c : Instr) (v : Served) (m : Master) (r : Request) (w : WinIx) (x : WinCopy),
    s.delivers c v → v.lookup.master = m → v.lookup.ctx = r.ctx → s.record m = some r →
    s.holdsGranule r.ctx w v.lookup.granule.toNat → x = (s.slot r.ctx w).copy w →
    (v.lookup.label ≠ .second → v.lookup.granule.toNat = r.addr.toNat / 256 →
      (∀ r' : Request, r' = { r with part1 := s.foundPart r .only x } →
        ((r.addr.toNat + r.sizeM1.toNat) / 256 = r.addr.toNat / 256 ∨
          (r.addr.toNat + r.sizeM1.toNat) / 256 < 65536 ∧ x.contains ((r.addr.toNat + r.sizeM1.toNat) / 256)) →
        exec c s = .next (State.completeTranslation { s with
          engine := .idle
          streams := s.loaded m r.ctx x
          records := s.records.set m (some r')
          log := deniedUnless s.log m r .only x
          out := Out.quiet } m r')) ∧
      (∀ r' : Request, r' = { r with
          part1 := s.foundPart r .first x, part2 := some (waitingPart r .second) } →
        (r.addr.toNat + r.sizeM1.toNat) / 256 = r.addr.toNat / 256 + 1 → r.addr.toNat / 256 + 1 < 65536 →
        ¬ x.contains (r.addr.toNat / 256 + 1) →
        (s.binding m = some r.ctx ∨ s.missesStream m r.ctx (r.addr.toNat / 256 + 1)) →
        exec c s = .next { s with
          engine := .idle
          streams := s.loaded m r.ctx x
          records := s.records.set m (some r')
          waitList := s.waitList ++
            [{ master := m, ctx := r.ctx, granule := BitVec.ofNat 16 (r.addr.toNat / 256 + 1), label := .second }]
          log := deniedUnless s.log m r .first x
          out := Out.quiet }) ∧
      (∀ r' : Request, r' = { r with
          part1 := s.foundPart r .first x, part2 := some (missedPart r .second) } →
        (r.addr.toNat + r.sizeM1.toNat) / 256 = 65536 →
        exec c s = .next (State.completeTranslation { s with
          engine := .idle
          streams := s.loaded m r.ctx x
          records := s.records.set m (some r')
          log := unmappedIn (deniedUnless s.log m r .first x) m r .second
          out := Out.quiet } m r'))) ∧
    (v.lookup.label = .second → ∀ r' : Request, r' = { r with part2 := some (s.foundPart r .second x) } →
      exec c s = .next (State.completeTranslation { s with
        engine := .idle
        streams := s.loaded m r.ctx x
        records := s.records.set m (some r')
        log := deniedUnless s.log m r .second x
        out := Out.quiet } m r')))

/-- A search that finds no window for the last part of an access fails it UNMAPPED: a record with no window and no
word, the reply, the record IDLE, the stream record as it was. A FIRST part that is not found is UNMAPPED with its
record and its SECOND part's translation begins in the same event: UNMAPPED past FFFFFFh, found in the stream record,
or a lookup that joins the tail; and a SECOND part that is not found ends the translation, whatever the FIRST part's
status (R25, R31, R32, R38, R39, R43, R44, R53, R160). -/
def Obligations.SearchFindsNoWindow : Prop :=
  (∀ (s : State) (c : Instr) (v : Served) (m : Master) (r : Request),
      (c = .searchCompletion ∧ s.engine = .searching v ∧ v.captured = s.version v.lookup.ctx ∨
        c = .repeatedSearchCompletion ∧ s.engine = .repeating v) →
      v.abandoned = false → v.lookup.master = m → v.lookup.ctx = r.ctx → s.record m = some r → r.ops = [] →
      (v.lookup.label = .only ∧ r.part2 = none ∧
          (r.addr.toNat + r.sizeM1.toNat) / 256 = r.addr.toNat / 256 ∨
        v.lookup.label = .second ∧ r.part1.status = .translated) →
      (∀ u : WinIx, (s.slot r.ctx u).image.valid = true →
        ¬ ((s.slot r.ctx u).copy u).contains v.lookup.granule.toNat) →
      exec c s = .next { s with
        engine := .idle
        records := s.records.set m none
        log := s.log.handIn
          { kind := .unmapped, cause := none, req := some (faultFields m r v.lookup.label)
            winIx := none, word := none, opKind := none, tag := none }
        drain := s.drain.update fun _ => Member.afterReply m
        out := sentReply m { status := .unmapped, posted := false, data := Bytes8.zero } }) ∧
  (∀ (s : State) (c : Instr) (v : Served) (m : Master) (r : Request),
    s.delivers c v → v.lookup.master = m → v.lookup.ctx = r.ctx → s.record m = some r →
    s.lacksGranule r.ctx v.lookup.granule.toNat →
    (v.lookup.label ≠ .second → (r.addr.toNat + r.sizeM1.toNat) / 256 = r.addr.toNat / 256 + 1 →
      (∀ r' : Request, r' = { r with part1 := missedPart r .first, part2 := some (waitingPart r .second) } →
        r.addr.toNat / 256 + 1 < 65536 → s.missesStream m r.ctx (r.addr.toNat / 256 + 1) →
        exec c s = .next { s with
          engine := .idle
          records := s.records.set m (some r')
          waitList := s.waitList ++
            [{ master := m, ctx := r.ctx, granule := BitVec.ofNat 16 (r.addr.toNat / 256 + 1), label := .second }]
          log := unmappedIn s.log m r .first
          out := Out.quiet }) ∧
      (∀ (r' : Request) (x : WinCopy), r' = { r with
          part1 := missedPart r .first, part2 := some (s.foundPart r .second x) } →
        r.addr.toNat / 256 + 1 < 65536 → s.stream m = some { ctx := r.ctx, win := x } →
        x.contains (r.addr.toNat / 256 + 1) →
        exec c s = .next (State.completeTranslation { s with
          engine := .idle
          records := s.records.set m (some r')
          log := deniedUnless (unmappedIn s.log m r .first) m r .second x
          out := Out.quiet } m r')) ∧
      (∀ r' : Request, r' = { r with
          part1 := missedPart r .first, part2 := some (missedPart r .second) } →
        r.addr.toNat / 256 + 1 = 65536 →
        exec c s = .next (State.completeTranslation { s with
          engine := .idle
          records := s.records.set m (some r')
          log := unmappedIn (unmappedIn s.log m r .first) m r .second
          out := Out.quiet } m r'))) ∧
    (v.lookup.label = .second → ∀ r' : Request, r' = { r with part2 := some (missedPart r .second) } →
      exec c s = .next (State.completeTranslation { s with
        engine := .idle
        records := s.records.set m (some r')
        log := unmappedIn s.log m r .second
        out := Out.quiet } m r')))

/-! ## Lanes, words and replies (chapters 3, 4 and 5) -/

/-- Each bit of the check byte is fixed by one column of the word: it is 1 exactly when an even number of the eight
data bytes have that bit set (R87). -/
def Obligations.CheckByteIsOddParity : Prop :=
  ∀ (d : Bytes8) (j : Nat), j < 8 →
    ((checkByte d).getLsbD j = true ↔
      ((List.finRange 8).filter fun i : Fin 8 => (d[i]).getLsbD j).length % 2 = 0)

/-- An answer disagrees exactly when some column of the nine bytes differs in an odd number of bits from the columns
as written (R93). -/
def Obligations.DisagreementIsAnOddColumn : Prop :=
  ∀ (d d' : Bytes8) (check' : Byte),
    agrees d' check' = false ↔
      ∃ j < 8, (((List.finRange 8).filter fun i : Fin 8 => (d[i]).getLsbD j != (d'[i]).getLsbD j).length +
        (if (checkByte d).getLsbD j = check'.getLsbD j then 0 else 1)) % 2 = 1

/-- Lanes and byte positions: what a WRITE records, places and merges, and what a READ gathers and returns
(R46, R58, R70, R71, R81, R84). That a WRITE records 00h on the lanes beyond its size, which R46 leaves unrecorded, is
the model's choice (notes/assumptions/13.md). -/
def Obligations.LanesFollowPositions : Prop :=
  (∀ (size : BitVec 3) (lanes : Bytes8) (i : Fin 8),
    (recordedLanes .write size lanes)[i] = if i.val ≤ size.toNat then lanes[i] else 0) ∧
  (∀ (mask lanes : Run) (v : Bytes8) (p i : Fin 8), mask.len = lanes.len → lanes.lo ≤ i.val →
    i.val < lanes.lo + lanes.len → p.val = mask.lo + (i.val - lanes.lo) → (placeLanes mask lanes v)[p] = v[i]) ∧
  (∀ (mask : Run) (data old : Bytes8) (p : Fin 8),
    (mergeWord mask data old)[p] = if mask.lo ≤ p.val ∧ p.val < mask.lo + mask.len then data[p] else old[p]) ∧
  (∀ (mask lanes : Run) (word acc : Bytes8) (p i : Fin 8), mask.len = lanes.len → lanes.lo ≤ i.val →
    i.val < lanes.lo + lanes.len → p.val = mask.lo + (i.val - lanes.lo) →
    (gatherLanes mask lanes word acc)[i] = word[p]) ∧
  (∀ (mask lanes : Run) (word acc : Bytes8) (i : Fin 8), ¬ (lanes.lo ≤ i.val ∧ i.val < lanes.lo + lanes.len) →
    (gatherLanes mask lanes word acc)[i] = acc[i]) ∧
  (∀ (size : BitVec 3) (gathered : Bytes8) (i : Fin 8),
    (replyLanes size gathered)[i] = if i.val ≤ size.toNat then gathered[i] else 0)

/-- The reply status of a held request with every operation DONE is the status of its lowest-laned failed operation,
or OK; a READ that is OK returns its gathered lanes, every other reply zeros, and none is posted: for a request of two
operations, in one part or two, and for one of one operation (R58, R59, R60, R85). -/
def Obligations.ReplyIsComposed : Prop :=
  (∀ (r : Request) (a b : WordOp) (sa sb : OpStatus) (ta tb : Option TagNo), r.part1.status = .translated →
      a.state = .done sa ta → b.state = .done sb tb → r.ops = [a, b] →
      (r.part2 = none ∧ a.label = r.part1.label ∧ b.label = r.part1.label ∨
        ∃ q : Part, r.part2 = some q ∧ q.status = .translated ∧ a.label = r.part1.label ∧ b.label = q.label ∧
          q.label ≠ r.part1.label) →
      composeReply r =
        { status := (match sa, sb with
            | .failed c, _ => c.replyStatus
            | .ok, .failed c => c.replyStatus
            | .ok, .ok => .ok)
          posted := false
          data := if r.kind = .read ∧ sa = .ok ∧ sb = .ok then replyLanes r.sizeM1 r.gathered else Bytes8.zero }) ∧
  (∀ (r : Request) (a : WordOp) (sa : OpStatus) (ta : Option TagNo), r.part1.status = .translated →
    r.part2 = none → a.state = .done sa ta → r.ops = [a] → a.label = r.part1.label →
    composeReply r =
      { status := (match sa with
          | .failed c => c.replyStatus
          | .ok => .ok)
        posted := false
        data := if r.kind = .read ∧ sa = .ok then replyLanes r.sizeM1 r.gathered else Bytes8.zero }) ∧
  (∀ c : Cause, c.replyStatus = (match c with
    | .check => .check
    | .memory => .memory
    | .timeout => .timeout))

/-- When its last operation is DONE a request replies and its record returns to IDLE; before that nothing happens to
it (R54, R55, R61). -/
def Obligations.LastOperationReplies : Prop :=
  ∀ (s : State) (m : Master) (r : Request), s.record m = some r → r.state ≠ .lookup →
    ((∀ o ∈ r.ops, ∃ (st : OpStatus) (t : Option TagNo), o.state = .done st t) →
      s.finishRequest m = { s with
        records := s.records.set m none
        drain := s.drain.update fun _ => Member.afterReply m
        out := { s.out with replies := s.out.replies.set m (some (composeReply r)) } }) ∧
    ((∃ o ∈ r.ops, o.state = .pending ∨ ∃ t : TagNo, o.state = .issued t) → s.finishRequest m = s)

/-! ## The arbiter and its grants (chapter 7) -/

/-- The arbiter's choice is a ready source, the first after the pointer in the cyclic order, and there is one exactly
when some source is ready. A request source is ready when one of its operations is, under the five conditions of R72,
and the PWQ when its oldest QUEUED entry is offered; a grant to a request takes one of its ready operations
(R72, R73, R75, R99, R107, R118, R119). -/
def Obligations.ArbiterTakesFirstReady : Prop :=
  (∀ s : State,
      (∀ src : Source, s.nextSource = some src →
        s.sourceReady src = true ∧
        ∀ other : Source, s.sourceReady other = true → s.port.pointer.turns src ≤ s.port.pointer.turns other) ∧
      (s.nextSource = none ↔ ∀ src : Source, s.sourceReady src = false)) ∧
  (∀ (s : State) (m : Master), s.sourceReady (.master m) = true ↔
    ∃ r ∈ s.record m, ∃ i : Nat, i ∈ s.readyOps m r) ∧
  (∀ (s : State) (m : Master) (r : Request) (i : Nat),
    i ∈ s.readyOps m r ↔ ∃ o : WordOp, r.ops[i]? = some o ∧ s.readyFor m r o) ∧
  (∀ (s : State) (m : Master) (r : Request) (choice : OpChoice),
    (∀ i : Nat, chooseOp choice (s.readyOps m r) = some i → i ∈ s.readyOps m r) ∧
    (chooseOp choice (s.readyOps m r) = none ↔ s.readyOps m r = [])) ∧
  (∀ s : State, s.sourceReady .pwq = true ↔ ∃ e : Entry, s.offeredEntry = some e) ∧
  (∀ (s : State) (e : Entry), s.offeredEntry = some e ↔ s.offers e)

/-- The grant of a FREE tag to a ready operation of a request: the tag LIVE on its word, READ or WRITE sent, the
operation ISSUED without snapshot, the record ACTIVE, the pointer on the master (R77, R113, R119, R120; tag and choice are
operands: notes/assumptions/5.md). -/
def Obligations.GrantToRequest : Prop :=
  ∀ (s : State) (t : TagNo) (choice : OpChoice) (m : Master) (r : Request) (i : Nat) (o : WordOp),
    (s.tag t).state = .free → s.nextSource = some (.master m) → s.record m = some r →
    chooseOp choice (s.readyOps m r) = some i → r.ops[i]? = some o →
    exec (.tagGrant t choice) s = .next { s with
      port := { s.portLive t o.word o.work (.request m o.label) with pointer := .master m }
      records := s.records.set m (some { r with
        state := .active
        ops := r.ops.set i { o with state := .issued t, snapshot := [] } })
      out := sentCommand (match o.work with
        | .write => .write t o.word o.data (checkByte o.data)
        | .read => .read t o.word
        | .rmw _ => .read t o.word) }

/-- The grant of a FREE tag to the PWQ's oldest QUEUED entry; the next entry, become the oldest, is judged against the
quarantine (R99, R101, R120). -/
def Obligations.GrantToQueue : Prop :=
  ∀ (s : State) (t : TagNo) (choice : OpChoice) (e : Entry),
    (s.tag t).state = .free → s.nextSource = some .pwq → s.offeredEntry = some e →
    exec (.tagGrant t choice) s = .next (State.settleHead { s with
      port := { s.portLive t e.word e.work .pwqEntry with pointer := .pwq }
      pwq := s.pwq.map fun x => if x.id = e.id then { x with state := .issued t } else x
      out := sentCommand (match e.work with
        | .write => .write t e.word e.data (checkByte e.data)
        | .read => .read t e.word
        | .rmw _ => .read t e.word) })

/-- No grant is made on a tag that is not FREE, nor when no source is ready; and no source is ready while the back port
is CLEARING (R112, R119, R130; a grant that cannot be made has no effect: notes/assumptions/3.md). -/
def Obligations.NoGrant : Prop :=
  ∀ (s : State) (t : TagNo) (choice : OpChoice),
    (((s.tag t).state ≠ .free ∨ s.nextSource = none) →
      exec (.tagGrant t choice) s = .next { s with out := Out.quiet }) ∧
    (s.port.back ≠ .normal → s.nextSource = none)

/-- The head of the PWQ under a quarantine fails POSTED with cause TIMEOUT, naming the quarantined tag, and leaves; the
next QUEUED entry is judged in its turn; a head whose word is not quarantined stays (R101, R104, R105). -/
def Obligations.HeadUnderQuarantineFails : Prop :=
  ∀ s : State,
    (∀ (e : Entry) (t : TagNo), s.oldestQueued = some e → s.quarantinedBy e.word = some t →
      s.settleHead = State.settleHead { s with
        log := s.log.handIn
          { kind := .posted, cause := some .timeout
            req := some { master := e.master, ctx := some e.ctx, serial := e.serial, dir := .write, addr := e.addr
                          sizeM1 := e.sizeM1, label := e.label }
            winIx := some e.winIx, word := some e.word, opKind := some e.work.kind, tag := some t }
        pwq := s.pwq.filter fun x => x.id ≠ e.id
        records := Vector.ofFn fun m : Master => (s.record m).map (Request.forget e.id)
        drain := s.drain.update fun _ => Member.afterEntry e.id }) ∧
    ((∀ e : Entry, s.oldestQueued = some e → s.quarantinedBy e.word = none) → s.settleHead = s)

/-! ## Answers (chapters 4 to 7) -/

/-- A good answer to a READ of a request frees the tag and gathers the bytes at the mask onto the operation's lanes;
the request replies when that was its last operation (R78, R84, R125). -/
def Obligations.ReadAnswerGathers : Prop :=
  ∀ (s : State) (tag : BitVec 3) (t : TagNo) (data : Bytes8) (check : Byte) (l : LiveWork) (m : Master)
    (label : Label) (r : Request) (o : WordOp), s.porst = false → tag.toNat = t.val →
    (s.tag t).state = .live l → l.work = .read → l.owner = .request m label → s.record m = some r →
    r.opOnTag t = some o → checkByte data = check →
    exec (.answer tag .ok data check) s = .next (State.finishRequest { s with
      port := s.portFreed t
      records := s.records.set m (some { r with
        ops := r.ops.map fun x => if x.state = .issued t then { x with state := .done .ok none } else x
        gathered := gatherLanes o.mask o.lanes data r.gathered })
      out := Out.quiet } m)

/-- An answer OK to a WRITE, or to the write phase of an RMW, of a request completes the operation and frees the tag,
whatever data it carries (R79, R82, R125). -/
def Obligations.WriteAnswerCompletes : Prop :=
  ∀ (s : State) (tag : BitVec 3) (t : TagNo) (data : Bytes8) (check : Byte) (l : LiveWork) (m : Master)
    (label : Label) (r : Request) (o : WordOp), s.porst = false → tag.toNat = t.val →
    (s.tag t).state = .live l → (l.work = .write ∨ l.work = .rmw .writePhase) → l.owner = .request m label →
    s.record m = some r → r.opOnTag t = some o →
    exec (.answer tag .ok data check) s = .next (State.finishRequest { s with
      port := s.portFreed t
      records := s.records.set m (some { r with
        ops := r.ops.map fun x => if x.state = .issued t then { x with state := .done .ok none } else x })
      out := Out.quiet } m)

/-- A good read-phase answer merges an RMW of a request and sends its WRITE on the same tag, with the merged bytes,
their check byte and a fresh count; the tag stays LIVE on its word (R81, R123, R125). -/
def Obligations.GoodReadPhaseAnswerMerges : Prop :=
  ∀ (s : State) (tag : BitVec 3) (t : TagNo) (data : Bytes8) (check : Byte) (l : LiveWork) (m : Master)
    (label : Label) (r : Request) (o : WordOp), s.porst = false → tag.toNat = t.val →
    (s.tag t).state = .live l → l.work = .rmw .readPhase → l.owner = .request m label → s.record m = some r →
    r.opOnTag t = some o → checkByte data = check →
    exec (.answer tag .ok data check) s = .next { s with
      port := s.portLive t o.word (.rmw .writePhase) (.request m label)
      records := s.records.set m (some { r with
        ops := r.ops.map fun x =>
          if x.state = .issued t then { x with data := mergeWord x.mask x.data data, work := .rmw .writePhase }
          else x })
      out := sentCommand
        (.write t o.word (mergeWord o.mask o.data data) (checkByte (mergeWord o.mask o.data data))) }

/-- A bad answer to a request's operation fails it: ERROR fails MEMORY whatever the bytes, and an OK answer to a READ
or a read phase whose check byte disagrees fails CHECK; nothing is gathered, no WRITE is sent, the tag is FREE and one
record names word and tag (R78, R79, R80, R82, R91, R92, R125). -/
def Obligations.BadAnswerFails : Prop :=
  ∀ (s : State) (tag : BitVec 3) (t : TagNo) (status : AnswerStatus) (data : Bytes8) (check : Byte) (l : LiveWork)
    (m : Master) (label : Label) (r : Request) (o : WordOp) (cause : Cause) (kind : FaultKind), s.porst = false →
    tag.toNat = t.val → (s.tag t).state = .live l → l.owner = .request m label → s.record m = some r →
    r.opOnTag t = some o →
    (status = .error ∧ cause = .memory ∧ kind = .memory ∨
      status = .ok ∧ (l.work = .read ∨ l.work = .rmw .readPhase) ∧ checkByte data ≠ check ∧ cause = .check ∧
        kind = .check) →
    exec (.answer tag status data check) s = .next (State.finishRequest { s with
      port := s.portFreed t
      log := s.log.handIn
        { kind := kind, cause := none, req := some (faultFields m r o.label), winIx := some o.winIx
          word := some o.word, opKind := some o.work.kind, tag := some t }
      records := s.records.set m (some { r with
        ops := r.ops.map fun x =>
          if x.state = .issued t then { x with state := .done (.failed cause) (some t) } else x })
      out := Out.quiet } m)

/-- An answer to a PWQ entry: good to a read phase, it merges and sends the WRITE; good to a WRITE or a write phase,
the entry leaves; bad, the entry leaves with a POSTED record (R102, R103, R104, R105). -/
def Obligations.AnswerToEntry : Prop :=
  ∀ (s : State) (tag : BitVec 3) (t : TagNo) (status : AnswerStatus) (data : Bytes8) (check : Byte) (l : LiveWork)
    (e : Entry), s.porst = false → tag.toNat = t.val → (s.tag t).state = .live l → l.owner = .pwqEntry →
    s.entryOnTag t = some e →
    (status = .ok → l.work = .rmw .readPhase → checkByte data = check →
      exec (.answer tag status data check) s = .next { s with
        port := s.portLive t e.word (.rmw .writePhase) .pwqEntry
        pwq := s.pwq.map fun x =>
          if x.state = .issued t then { x with data := mergeWord x.mask x.data data, work := .rmw .writePhase }
          else x
        out := sentCommand
          (.write t e.word (mergeWord e.mask e.data data) (checkByte (mergeWord e.mask e.data data))) }) ∧
    (status = .ok → (l.work = .write ∨ l.work = .rmw .writePhase) →
      exec (.answer tag status data check) s = .next { s with
        port := s.portFreed t
        pwq := s.pwq.filter fun x => x.id ≠ e.id
        records := Vector.ofFn fun m : Master => (s.record m).map (Request.forget e.id)
        drain := s.drain.update fun _ => Member.afterEntry e.id
        out := Out.quiet }) ∧
    (∀ cause : Cause,
      (status = .error ∧ cause = .memory ∨
        status = .ok ∧ l.work = .rmw .readPhase ∧ checkByte data ≠ check ∧ cause = .check) →
      exec (.answer tag status data check) s = .next { s with
        port := s.portFreed t
        log := s.log.handIn
          { kind := .posted, cause := some cause
            req := some { master := e.master, ctx := some e.ctx, serial := e.serial, dir := .write, addr := e.addr
                          sizeM1 := e.sizeM1, label := e.label }
            winIx := some e.winIx, word := some e.word, opKind := some e.work.kind, tag := some t }
        pwq := s.pwq.filter fun x => x.id ≠ e.id
        records := Vector.ofFn fun m : Master => (s.record m).map (Request.forget e.id)
        drain := s.drain.update fun _ => Member.afterEntry e.id
        out := Out.quiet })

/-- Any answer to an orphan ends it: the tag is FREE, no WRITE is sent, no record is made (R63, R83, R125). -/
def Obligations.AnswerEndsOrphan : Prop :=
  ∀ (s : State) (tag : BitVec 3) (t : TagNo) (status : AnswerStatus) (data : Bytes8) (check : Byte) (l : LiveWork)
    (o : Orphan), s.porst = false → tag.toNat = t.val → (s.tag t).state = .live l → l.owner = .orphan o →
    exec (.answer tag status data check) s = .next { s with
      port := s.portFreed t
      drain := s.drain.update fun _ => Member.afterOrphan t
      out := Out.quiet }

/-- An answer on a FREE tag makes a STRAY record of the tag and its last word, and does nothing else (R127). -/
def Obligations.StrayAnswerIsLogged : Prop :=
  ∀ (s : State) (tag : BitVec 3) (t : TagNo) (status : AnswerStatus) (data : Bytes8) (check : Byte),
    s.porst = false → tag.toNat = t.val → (s.tag t).state = .free →
    exec (.answer tag status data check) s = .next { s with
      log := s.log.handIn
        { kind := .stray, cause := none, req := none, winIx := none, word := some (s.tag t).lastWord, opKind := none
          tag := some t }
      out := Out.quiet }

/-- An answer that names tag 6 or 7 is discarded (R180). -/
def Obligations.AnswerOutsidePoolDiscarded : Prop :=
  ∀ (s : State) (tag : BitVec 3) (status : AnswerStatus) (data : Bytes8) (check : Byte), 6 ≤ tag.toNat →
    exec (.answer tag status data check) s = .next { s with out := Out.quiet }

/-- A late answer frees the QUARANTINED tag it names, and does nothing else; while PORST# is asserted an ANSWER or a
CLEARED is dropped (R126, R179). -/
def Obligations.LateAndDroppedAnswers : Prop :=
  ∀ (s : State) (tag : BitVec 3) (status : AnswerStatus) (data : Bytes8) (check : Byte),
    (∀ (t : TagNo) (word : WordAddr), s.porst = false → tag.toNat = t.val → (s.tag t).state = .quarantined word →
      exec (.answer tag status data check) s = .next { s with port := s.portFreed t, out := Out.quiet }) ∧
    (s.porst = true →
      exec (.answer tag status data check) s = .next { s with out := Out.quiet } ∧
      exec .cleared s = .next { s with out := Out.quiet })

/-! ## Expiries and clears (chapter 7) -/

/-- An expiry quarantines the tag on its word and fails its work TIMEOUT: an operation with a record, an entry with a
POSTED record, an orphan with none; then the waiting operations are judged, M0 first, and the head of the PWQ
(R124, R160; when a count expires: notes/assumptions/2.md; two in one event: 23.md). -/
def Obligations.ExpiryQuarantinesTag : Prop :=
  ∀ (s : State) (t : TagNo) (l : LiveWork) (port : Port), (s.tag t).state = .live l →
    port = { s.port with
      tags := s.port.tags.set t { state := .quarantined l.word, lastWord := (s.tag t).lastWord } } →
    (∀ (m : Master) (label : Label) (r : Request) (o : WordOp), l.owner = .request m label → s.record m = some r →
      r.opOnTag t = some o →
      exec (.deadlineExpiry t) s = .next (State.settleHead (masters.foldl State.judgeReadiness
        (State.finishRequest { s with
          port := port
          log := s.log.handIn
            { kind := .timeout, cause := none, req := some (faultFields m r o.label), winIx := some o.winIx
              word := some o.word, opKind := some o.work.kind, tag := some t }
          records := s.records.set m (some { r with
            ops := r.ops.map fun x =>
              if x.state = .issued t then { x with state := .done (.failed .timeout) (some t) } else x })
          out := Out.quiet } m)))) ∧
    (∀ e : Entry, l.owner = .pwqEntry → s.entryOnTag t = some e →
      exec (.deadlineExpiry t) s = .next (State.settleHead (masters.foldl State.judgeReadiness { s with
        port := port
        log := s.log.handIn
          { kind := .posted, cause := some .timeout
            req := some { master := e.master, ctx := some e.ctx, serial := e.serial, dir := .write, addr := e.addr
                          sizeM1 := e.sizeM1, label := e.label }
            winIx := some e.winIx, word := some e.word, opKind := some e.work.kind, tag := some t }
        pwq := s.pwq.filter fun x => x.id ≠ e.id
        records := Vector.ofFn fun m : Master => (s.record m).map (Request.forget e.id)
        drain := s.drain.update fun _ => Member.afterEntry e.id
        out := Out.quiet }))) ∧
    (∀ o : Orphan, l.owner = .orphan o →
      exec (.deadlineExpiry t) s = .next (State.settleHead (masters.foldl State.judgeReadiness { s with
        port := port
        drain := s.drain.update fun _ => Member.afterOrphan t
        out := Out.quiet })))

/-- A PENDING operation whose word a tag holds in quarantine is DONE with TIMEOUT and a record that names that tag;
other operations are left, and the request replies when none is left to run: for a request of one operation, and for
one of two of which the first, the second, or both wait so, lane 0's record first (R74, R160). -/
def Obligations.QuarantineFailsPending : Prop :=
  ∀ (s : State) (m : Master) (r : Request) (timeout : WordOp → TagNo → FaultBody) (done : WordOp → TagNo → WordOp),
    s.record m = some r →
    timeout = (fun o t =>
      { kind := .timeout, cause := none, req := some (faultFields m r o.label), winIx := some o.winIx
        word := some o.word, opKind := some o.work.kind, tag := some t }) →
    done = (fun o t => { o with state := .done (.failed .timeout) (some t) }) →
    (∀ (a : WordOp) (t : TagNo), r.ops = [a] → a.state = .pending → s.quarantinedBy a.word = some t →
      s.judgeReadiness m = State.finishRequest { s with
        log := s.log.handIn (timeout a t)
        records := s.records.set m (some { r with ops := [done a t] }) } m) ∧
    (∀ (a b : WordOp) (t : TagNo), r.ops = [a, b] →
      a.state = .pending → s.quarantinedBy a.word = some t →
      (b.state ≠ .pending ∨ s.quarantinedBy b.word = none) →
      s.judgeReadiness m = State.finishRequest { s with
        log := s.log.handIn (timeout a t)
        records := s.records.set m (some { r with ops := [done a t, b] }) } m) ∧
    (∀ (a b : WordOp) (t : TagNo), r.ops = [a, b] →
      (a.state ≠ .pending ∨ s.quarantinedBy a.word = none) →
      b.state = .pending → s.quarantinedBy b.word = some t →
      s.judgeReadiness m = State.finishRequest { s with
        log := s.log.handIn (timeout b t)
        records := s.records.set m (some { r with ops := [a, done b t] }) } m) ∧
    (∀ (a b : WordOp) (t u : TagNo), r.ops = [a, b] →
      a.state = .pending → s.quarantinedBy a.word = some t →
      b.state = .pending → s.quarantinedBy b.word = some u →
      s.judgeReadiness m = State.finishRequest { s with
        log := (s.log.handIn (timeout a t)).handIn (timeout b u)
        records := s.records.set m (some { r with ops := [done a t, done b u] }) } m) ∧
    ((∀ o ∈ r.ops, o.state ≠ .pending ∨ s.quarantinedBy o.word = none) →
      s.judgeReadiness m = s.finishRequest m)

/-- CLEARED ends a running clear: every QUARANTINED tag is FREE, the back port NORMAL, the last-clear result DONE. The
expiry of the clear's count ends it FAILED and leaves the quarantine. With no clear running CLEARED is ignored
(R131, R132). -/
def Obligations.ClearEnds : Prop :=
  ∀ s : State,
    (∀ count : BitVec 8, s.port.back = .clearing count →
      (s.porst = false → ∃ tags : Vector Tag 6,
        exec .cleared s = .next { s with
          port := { s.port with tags := tags, back := .normal, lastClear := .done }
          out := Out.quiet } ∧
        ∀ t : TagNo, tags[t] =
          { lastWord := (s.tag t).lastWord
            state := (match (s.tag t).state with
              | .quarantined _ => .free
              | .free => .free
              | .live l => .live l) }) ∧
      exec .clearDeadlineExpiry s = .next { s with
        port := { s.port with back := .normal, lastClear := .failed }
        out := Out.quiet }) ∧
    (s.port.back = .normal → exec .cleared s = .next { s with out := Out.quiet })

/-- The last-clear result changes at the end of a clear and at power-on reset, and at nothing else (R133). -/
def Obligations.LastClearChangesAtClearEnd : Prop :=
  ∀ (c : Instr) (s t : State), exec c s = .next t →
    t.port.lastClear = s.port.lastClear ∨
    c = .powerOnReset ∧ t.port.lastClear = .none ∨
    (∃ count : BitVec 8, s.port.back = .clearing count) ∧ t.port.back = .normal ∧
      (c = .cleared ∧ t.port.lastClear = .done ∨ c = .clearDeadlineExpiry ∧ t.port.lastClear = .failed)

/-! ## Reset lines (chapters 3 and 11) -/

/-- PORST# returns every block to its power-on values, sends nothing, abandons the period in progress and leaves the
input lines as the board drives them (R10, R66, R110, R134, R151, R166, R171; notes/assumptions/22.md). -/
def Obligations.PowerOnResetReturnsAll : Prop :=
  ∀ s : State, exec .powerOnReset s = .next { State.reset with
    channels := Vector.ofFn fun m : Master =>
      { offer := (s.channel m).offer, taken := false, crst := (s.channel m).crst, serial := 0 }
    link := { buffer := none
              period := (match s.link.period with
                | .none => .none
                | .running shown => .ignored shown
                | .ignored shown => .ignored shown) }
    porst := true
    pending := s.pending }

/-- The release of a reset line changes that line alone (R64, R66, R181). -/
def Obligations.ReleasesOpenChannels : Prop :=
  (∀ (m : Master) (s : State), exec (.channelResetRelease m) s = .next { s with
    channels := s.channels.set m { s.channel m with crst := false }
    out := Out.quiet }) ∧
  (∀ s : State, exec .powerOnResetRelease s = .next { s with porst := false, out := Out.quiet })

/-! ## The Maintenance Link (chapters 1 and 7 to 10) -/

/-- A period shows the buffer as it stood at the assertion of MSEL#: the status first, then its result bytes, then 00h,
an empty buffer as EMPTY. The assertion begins it; one of fewer than 8 edges leaves the buffer; a read period leaves it
empty; the status codes are those of Table 10-2 (R167, R168; a frame given with MSEL# deasserted: notes/assumptions/9.md). -/
def Obligations.PeriodsShowBuffer : Prop :=
  (∀ s : State, s.porst = false → s.link.period = .none →
    exec .mselAssertion s = .next { s with
      link := { buffer := s.link.buffer, period := .running s.link.buffer }
      out := Out.quiet }) ∧
  (∀ (s : State) (edges : Nat), edges < 8 →
    exec (.shortPeriod edges) s = .next (s.afterPeriod 0 edges s.link.buffer)) ∧
  (∀ (s : State) (bytes tail : Nat), s.judgesPeriod → 1 ≤ bytes →
    exec (.readPeriod bytes tail) s = .next (s.afterPeriod bytes tail none)) ∧
  (∀ (shown : Option Response) (bytes tail i : Nat), i < bytes →
    (mdoOver shown bytes tail).bytes[i]? = some (match shown with
      | none => if i = 0 then 0x0A else 0
      | some r => if i = 0 then statusCode r.status else r.result.getD (i - 1) 0)) ∧
  ([RespStatus.done, .accepted, .busy, .range, .badcmd, .badlen, .nostage, .overlap, .bounds, .empty].map statusCode =
    [0x01, 0x02, 0x03, 0x04, 0x05, 0x06, 0x07, 0x08, 0x09, 0x0A])

/-- A frame that is no command is answered BADCMD, and a frame of another length than its code's, or with an incomplete
byte, BADLEN; neither changes anything but the response buffer (R169). -/
def Obligations.BadFramesChangeOnlyBuffer : Prop :=
  ∀ (s : State) (f : Frame), s.judgesPeriod →
    (∀ code : Byte, code ≠ 0x00 → code ∉ [0x01, 0x10, 0x11, 0x12, 0x20, 0x21, 0x22, 0x30, 0x40, 0x41] →
      exec (.badcmd code f) s =
        .next (s.afterPeriod (f.args.length + 1) f.tail (some { status := .badcmd, result := [] }))) ∧
    (∀ (c : Frame → Instr) (n : Nat),
      (c, n) ∈ [(Instr.status, 0), (.stage, 8), (.commit, 2), (.readWindow, 2), (.bind, 2), (.readBinding, 1),
        (.readStream, 1), (.popFault, 0), (.setDeadline, 1), (.backClear, 0)] →
      f.args.length ≠ n ∨ f.tail ≠ 0 →
      exec (c f) s =
        .next (s.afterPeriod (f.args.length + 1) f.tail (some { status := .badlen, result := [] })))

/-- While PORST# is asserted, or in a period it met, no period takes any effect but its end (R171; what MDO then
carries: notes/assumptions/10.md). -/
def Obligations.LinkIgnoresPeriodsUnderReset : Prop :=
  ∀ (s : State) (p : PeriodBits), ¬ s.judgesPeriod → p.tail < 8 →
    exec (decodePeriod p) s = .next (s.afterPeriod p.bytes.length p.tail s.link.buffer)

/-- STATUS, READ_WINDOW, READ_BINDING and READ_STREAM answer with what stands in the frame event, or RANGE, and change
nothing but the buffer; the bytes of a window, a stream record and STATUS are those of Tables 10-4, 10-5 and 10-7
(R11, R29, R136, R172, R174, R175, R176). -/
def Obligations.ReadCommandsChangeNothing : Prop :=
  (∀ s : State, s.judgesPeriod →
      exec (.status ⟨[], 0⟩) s =
        .next (s.afterPeriod 1 0 (some { status := .done, result := statusBytes s })) ∧
      (∀ cb wb : Byte, 7 < cb.toNat ∨ 15 < wb.toNat →
        s.answersBare (.readWindow ⟨[cb, wb], 0⟩) 3 .range) ∧
      (∀ (c : Ctx) (w : WinIx) (cb wb : Byte), cb.toNat = c.val → wb.toNat = w.val →
        exec (.readWindow ⟨[cb, wb], 0⟩) s =
          .next (s.afterPeriod 3 0 (some { status := .done, result := windowBytes (s.slot c w) }))) ∧
      (∀ mb : Byte, 3 < mb.toNat →
        s.answersBare (.readBinding ⟨[mb], 0⟩) 2 .range ∧
        s.answersBare (.readStream ⟨[mb], 0⟩) 2 .range) ∧
      (∀ (m : Master) (mb : Byte), mb.toNat = m.val →
        exec (.readBinding ⟨[mb], 0⟩) s =
          .next (s.afterPeriod 2 0 (some { status := .done, result := [match s.binding m with
            | none => 0xFF
            | some c => BitVec.ofNat 8 c.val] })) ∧
        exec (.readStream ⟨[mb], 0⟩) s =
          .next (s.afterPeriod 2 0 (some { status := .done, result := streamBytes (s.stream m) })))) ∧
  (∀ w : Window, windowBytes w =
    [packed [(1, w.image.valid.toNat), (1, w.image.readOk.toNat), (1, w.image.writeOk.toNat),
      (1, if w.image.posting = .posted then 1 else 0), (4, 0)]] ++
    bigEndian 2 w.image.start.toNat ++ bigEndian 2 w.image.lenM1.toNat ++ bigEndian 3 w.image.base.toNat ++ [w.gen]) ∧
  streamBytes none = [0, 0, 0, 0, 0, 0, 0, 0, 0, 0] ∧
  (∀ r : StreamRec, streamBytes (some r) =
    packed [(1, 1), (3, r.ctx.val), (4, r.win.index.val)] ::
      windowBytes
        { image := { valid := true, start := r.win.start, lenM1 := r.win.lenM1, base := r.win.base
                     readOk := r.win.readOk, writeOk := r.win.writeOk, posting := r.win.posting }
          gen := r.win.gen }) ∧
  (∀ s : State, s.membersRemaining ≤ 18 → statusBytes s =
    [BitVec.ofNat 8 s.log.records.length] ++ bigEndian 2 s.log.next.toNat ++
    (match s.drain.state with
      | .idle => [0, 0]
      | .draining (.commit c w _) members =>
        [packed [(1, 1), (1, 0), (1, 0), (5, members.length)], targetCode (.commit c w)]
      | .draining (.bind m) members =>
        [packed [(1, 1), (1, 1), (1, 0), (5, members.length)], targetCode (.bind m)]) ++
    (match s.drain.last with
      | none => [0, 0]
      | some (.commit c w) => [packed [(2, 1), (6, 0)], targetCode (.commit c w)]
      | some (.bind m) => [packed [(2, 2), (6, 0)], targetCode (.bind m)]) ++
    [packed [(1, if s.port.back = .normal then 0 else 1), (5, 0), (2, match s.port.lastClear with
      | .none => 0
      | .done => 1
      | .failed => 2)]] ++
    [packed [tagCode (s.tag 0).state, tagCode (s.tag 1).state, tagCode (s.tag 2).state, tagCode (s.tag 3).state],
      packed [tagCode (s.tag 4).state, tagCode (s.tag 5).state, (4, 0)]] ++
    [BitVec.ofNat 8 s.pwq.length, s.port.deadline])

/-- STAGE of the right length replaces the image with the fields it carries, sets it loaded and is answered DONE; bits
3 to 0 of the flag byte are ignored (R13, R173). -/
def Obligations.StageLoadsImage : Prop :=
  ∀ (s : State) (fl s1 s0 l1 l0 b2 b1 b0 : Byte), s.judgesPeriod →
    exec (.stage ⟨[fl, s1, s0, l1, l0, b2, b1, b0], 0⟩) s =
      .next { s.afterPeriod 9 0 (some { status := .done, result := [] }) with
        staging :=
          { image := { valid := fl.getLsbD 7, start := s1 ++ s0, lenM1 := l1 ++ l0, base := b2 ++ b1 ++ b0
                       readOk := fl.getLsbD 6, writeOk := fl.getLsbD 5
                       posting := if fl.getLsbD 4 then .posted else .strict }
            loaded := true } }

/-- COMMIT makes the checks of Table 1-3 in their order; the first that fails gives the answer, and a refused COMMIT
changes nothing but the buffer (R15, R16, R17, R18). -/
def Obligations.CommitChecksInOrder : Prop :=
  ∀ (s : State) (cb wb : Byte), s.judgesPeriod →
    (7 < cb.toNat ∨ 15 < wb.toNat → s.answersBare (.commit ⟨[cb, wb], 0⟩) 3 .range) ∧
    (∀ (c : Ctx) (w : WinIx), cb.toNat = c.val → wb.toNat = w.val →
      (s.staging.loaded = false → s.answersBare (.commit ⟨[cb, wb], 0⟩) 3 .nostage) ∧
      (s.staging.loaded = true → s.drain.state ≠ .idle → s.answersBare (.commit ⟨[cb, wb], 0⟩) 3 .busy) ∧
      (s.staging.loaded = true → s.drain.state = .idle →
        (s.repeatsFor c → s.answersBare (.commit ⟨[cb, wb], 0⟩) 3 .busy) ∧
        (¬ s.repeatsFor c → s.staging.image.valid = true →
          (s.staging.image.runsPast → s.answersBare (.commit ⟨[cb, wb], 0⟩) 3 .bounds) ∧
          (¬ s.staging.image.runsPast → s.stagedShares c w →
            s.answersBare (.commit ⟨[cb, wb], 0⟩) 3 .overlap))))

/-- An accepted COMMIT replaces the slot, advances its generation and its context's version, makes absent every stream
record that names the slot, and hands the drain of the old generation to the tracker, all in one event
(R8, R9, R18, R19, R20, R140). -/
def Obligations.CommitReplacesSlot : Prop :=
  ∀ (s : State) (c : Ctx) (w : WinIx) (cb wb : Byte) (members : List Member), s.judgesPeriod →
    cb.toNat = c.val → wb.toNat = w.val → s.staging.loaded = true → s.drain.state = .idle → ¬ s.repeatsFor c →
    (s.staging.image.valid = true → ¬ s.staging.image.runsPast ∧ ¬ s.stagedShares c w) →
    members = s.drainMembers (.commit c w (s.slot c w).gen) →
    exec (.commit ⟨[cb, wb], 0⟩) s =
      .next { s.afterPeriod 3 0 (some { status := .accepted, result := [] }) with
        windows :=
          { slots := s.windows.slots.set c
              ((s.windows.slots[c]).set w { image := s.staging.image, gen := (s.slot c w).gen + 1 })
            versions := s.windows.versions.set c (s.version c + 1) }
        streams := Vector.ofFn fun m : Master =>
          (s.stream m).filter fun r => !(decide (r.ctx = c) && decide (r.win.index = w))
        drain := if members = [] then { state := .idle, last := some (.commit c w) }
          else { state := .draining (.commit c w (s.slot c w).gen) members, last := s.drain.last } }

/-- BIND: RANGE, then BUSY while the tracker drains, else the binding is changed, the stream record made absent and the
drain of the master begun, whatever the new binding is (R137, R140, R142, R175). -/
def Obligations.BindChangesBinding : Prop :=
  ∀ (s : State) (mb cb : Byte), s.judgesPeriod →
    (3 < mb.toNat ∨ (7 < cb.toNat ∧ cb ≠ 0xFF) →
      s.answersBare (.bind ⟨[mb, cb], 0⟩) 3 .range) ∧
    (∀ (m : Master) (b : Option Ctx) (members : List Member), mb.toNat = m.val →
      (cb = 0xFF ∧ b = none ∨ ∃ c : Ctx, cb.toNat = c.val ∧ b = some c) →
      (s.drain.state ≠ .idle →
        s.answersBare (.bind ⟨[mb, cb], 0⟩) 3 .busy) ∧
      (s.drain.state = .idle → members = s.drainMembers (.bind m) →
        exec (.bind ⟨[mb, cb], 0⟩) s =
          .next { s.afterPeriod 3 0 (some { status := .accepted, result := [] }) with
            bindings := s.bindings.set m b
            streams := s.streams.set m none
            drain := if members = [] then { state := .idle, last := some (.bind m) }
              else { state := .draining (.bind m) members, last := s.drain.last } }))

/-- When a drain begins its set holds each request, PWQ entry and orphan that belongs to it, each once, and nothing
else. A member leaves or stays as its event says, and when the last one leaves the drain completes: the tracker is
IDLE and the last result names its kind and target (R139, R141, R142, R143, R145). -/
def Obligations.DrainSetHoldsOldWork : Prop :=
  (∀ (s : State) (m₀ : Master) (c : Ctx) (w : WinIx) (g : BitVec 8),
      (∀ m : Master, Member.request m true [] [] ∈ s.drainMembers (.commit c w g) ↔
        ∃ r ∈ s.record m, ∃ p ∈ r.parts, ∃ x ∈ p.copy, r.ctx = c ∧ x.index = w ∧ x.gen = g) ∧
      (∀ id : Nat, Member.entry id ∈ s.drainMembers (.commit c w g) ↔
        ∃ e ∈ s.pwq, e.id = id ∧ e.ctx = c ∧ e.winIx = w ∧ e.gen = g) ∧
      (∀ t : TagNo, Member.orphan t ∈ s.drainMembers (.commit c w g) ↔
        ∃ (l : LiveWork) (o : Orphan), (s.tag t).state = .live l ∧ l.owner = .orphan o ∧ o.ctx = c ∧ o.winIx = w ∧
          o.gen = g) ∧
      (∀ m : Master, Member.request m true [] [] ∈ s.drainMembers (.bind m₀) ↔ m = m₀ ∧ s.record m ≠ none) ∧
      (∀ id : Nat, Member.entry id ∈ s.drainMembers (.bind m₀) ↔ ∃ e ∈ s.pwq, e.id = id ∧ e.master = m₀) ∧
      (∀ t : TagNo, Member.orphan t ∈ s.drainMembers (.bind m₀) ↔
        ∃ (l : LiveWork) (o : Orphan), (s.tag t).state = .live l ∧ l.owner = .orphan o ∧ o.master = m₀)) ∧
  (∀ (s : State) (job : DrainJob),
    (∀ (m : Master) (held : Bool) (entries : List Nat) (orphans : List TagNo),
      Member.request m held entries orphans ∈ s.drainMembers job → held = true ∧ entries = [] ∧ orphans = []) ∧
    ((s.pwq.map (·.id)).Nodup → (s.drainMembers job).Nodup)) ∧
  (∀ (d : Drain) (f : DrainJob → Member → Option Member),
    (d.state = .idle → d.update f = d) ∧
    (∀ (job : DrainJob) (members : List Member), d.state = .draining job members →
      ((∀ x ∈ members, f job x = none) →
        d.update f =
          { state := .idle
            last := some (match job with
              | .commit c w _ => .commit c w
              | .bind m => .bind m) }) ∧
      ((∃ x ∈ members, f job x ≠ none) →
        d.update f = { state := .draining job (members.filterMap (f job)), last := d.last })))

/-- POP_FAULT returns and removes the oldest record, and is answered EMPTY on an empty log; the next sequence number
stays. The fifteen bytes after the status are those of Table 10-6: an absent field reads zero, and the presence byte
says which fields are there (R164, R177). -/
def Obligations.PopFaultTakesOldest : Prop :=
  (∀ s : State, s.judgesPeriod →
      (s.log.records = [] →
        s.answersBare (.popFault ⟨[], 0⟩) 1 .empty) ∧
      (∀ (r : FaultRecord) (rest : List FaultRecord), s.log.records = r :: rest →
        exec (.popFault ⟨[], 0⟩) s =
          .next { s.afterPeriod 1 0 (some { status := .done, result := faultBytes r }) with
            log := { records := rest, next := s.log.next } })) ∧
  (∀ (r : FaultRecord) (b : FaultBody), b = r.body →
    faultBytes r =
      bigEndian 2 r.seq.toNat ++
      [packed [
        (4, match b.kind with
          | .unbound => 1
          | .unmapped => 2
          | .denied => 3
          | .check => 4
          | .memory => 5
          | .timeout => 6
          | .posted => 7
          | .stray => 8),
        (2, match b.cause with
          | none => 0
          | some .check => 1
          | some .memory => 2
          | some .timeout => 3), (2, 0)],
       packed [(1, b.req.isSome.toNat), (1, b.winIx.isSome.toNat), (1, b.word.isSome.toNat),
        (1, b.opKind.isSome.toNat), (1, b.tag.isSome.toNat), (3, 0)],
       (match b.req with
        | none => 0
        | some q => packed [(2, q.master.val),
          (1, match q.dir with
            | .read => 0
            | .write => 1),
          (2, match q.label with
            | .only => 0
            | .first => 1
            | .second => 2), (3, q.sizeM1.toNat)]),
       packed [
        (4, match b.req with
          | none => 0
          | some q => match q.ctx with
            | none => 15
            | some c => c.val),
        (4, match b.winIx with
          | none => 0
          | some w => w.val)],
       (match b.req with
        | none => 0
        | some q => q.serial)] ++
      bigEndian 3 (match b.req with
        | none => 0
        | some q => q.addr.toNat) ++
      [packed [
        (2, match b.opKind with
          | none => 0
          | some .read => 0
          | some .write => 1
          | some .rmw => 2), (3, 0),
        (3, match b.tag with
          | none => 0
          | some t => t.val)]] ++
      bigEndian 4 (match b.word with
        | none => 0
        | some w => w.toNat))

/-- SET_DEADLINE sets the deadline value, and refuses 0 with RANGE; counts that run are left (R122, R178). -/
def Obligations.SetDeadlineSetsValue : Prop :=
  ∀ (s : State) (v : Byte), s.judgesPeriod →
    (v = 0 →
      s.answersBare (.setDeadline ⟨[v], 0⟩) 2 .range) ∧
    (v ≠ 0 →
      exec (.setDeadline ⟨[v], 0⟩) s =
        .next { s.afterPeriod 2 0 (some { status := .done, result := [] }) with
          port := { s.port with deadline := v } })

/-- BACK_CLEAR is refused BUSY while a tag is LIVE or a clear runs; else CLEAR is sent and the back port is CLEARING,
with its own count at the current deadline value (R129, R130). -/
def Obligations.BackClearStartsClear : Prop :=
  ∀ s : State, s.judgesPeriod →
    (((∃ (t : TagNo) (l : LiveWork), (s.tag t).state = .live l) ∨ s.port.back ≠ .normal) →
      s.answersBare (.backClear ⟨[], 0⟩) 1 .busy) ∧
    ((∀ (t : TagNo) (l : LiveWork), (s.tag t).state ≠ .live l) → s.port.back = .normal →
      exec (.backClear ⟨[], 0⟩) s =
        .next { s.afterPeriod 1 0 (some { status := .accepted, result := [] }) with
          port := { s.port with back := .clearing s.port.deadline }
          out := { replies := Vector.replicate 4 none, command := some .clear
                   mdo := some (mdoOver s.link.shown 1 0) } })

/-- The layouts of the link keep every field: a period that carries a well-formed command decodes to it, but for the
bytes of a read period, which are not decoded and stand as 00h (the model's choice, notes/assumptions/18.md)
(R167, R169, Table 10-1). -/
def Obligations.PeriodDecodesToItsCommand : Prop :=
  ∀ (i : Instr) (p : PeriodBits), i.wellFormed = true → encodePeriod i = some p → decodePeriod p = i

/-! ## What every step keeps -/

/-- The law of the windows (R3, R17). -/
def Obligations.WindowsStaySeparate : Prop :=
  ∀ s t : State, WindowsSeparate s → step s = .next t → WindowsSeparate t

/-- The law of the stream records (R33). -/
def Obligations.StreamsStayCurrent : Prop :=
  ∀ s t : State, StreamsCurrent s → step s = .next t → StreamsCurrent t

/-- The law of the Fault Log. A record handed in takes the next number, which advances by one; it stands at the tail
exactly when there is room and its distance from the oldest exceeds the newest's, and is else discarded; ALERT# is
asserted while the log holds a record (R159, R162, R163). -/
def Obligations.LogStaysOrdered : Prop :=
  (∀ s t : State, LogOrdered s → step s = .next t → LogOrdered t) ∧
  (∀ (l : FaultLog) (b : FaultBody),
    (l.handIn b).next = l.next + 1 ∧
    (l.hasRoom → (l.handIn b).records = l.records ++ [{ seq := l.next, body := b }]) ∧
    (¬ l.hasRoom → (l.handIn b).records = l.records)) ∧
  (∀ s : State, s.alert = true ↔ s.log.records ≠ [])

/-- While PORST# is asserted the part stays at its power-on values (R66, R171, R179). -/
def Obligations.PowerOnValuesHold : Prop :=
  ∀ s t : State, PowerOnHolds s → step s = .next t → PowerOnHolds t

/-- No word is held by two tags, no tag is LIVE while a clear runs, and every LIVE tag answers to its work; with the
laws of lookups and of the queue that this rests on (R34, R97, R112, R116, R117, R119). -/
def Obligations.WordsStayHeldOnce : Prop :=
  ∀ s t : State,
    LookupsMatchRecords s ∧ PwqInOrder s ∧ TagsMatchWork s ∧ WordsHeldOnce s ∧ ClearHasNoLiveTag s →
    step s = .next t →
    LookupsMatchRecords t ∧ PwqInOrder t ∧ TagsMatchWork t ∧ WordsHeldOnce t ∧ ClearHasNoLiveTag t

/-- Every law of `Safe` together, the drain's among them: each piece of work under an old generation is counted in the
drain of its window, and each member of a drain stands for work that has not ended. And no member leaves a drain, of a
COMMIT or of a BIND, before the last of its work has ended (R97, R117, R141, R142, R143, R144, R162). -/
def Obligations.SafeIsKept : Prop :=
  ∀ s t : State, Safe s → step s = .next t → Safe t ∧ DrainKeepsWork s t
end

