-- ==== Sys2Proof/Laws/State.lean ====
section
/-! SUPPORT. One lemma for each field under each named update of the state, true by definition: no later proof unfolds
a record update. Then what the accessors read after an update of their own field. -/

namespace Sys2Proof.Machine

/-! ### beginEvent -/

@[simp] theorem beginEvent_windows (s : State) : (s.beginEvent).windows = s.windows := rfl
@[simp] theorem beginEvent_staging (s : State) : (s.beginEvent).staging = s.staging := rfl
@[simp] theorem beginEvent_bindings (s : State) : (s.beginEvent).bindings = s.bindings := rfl
@[simp] theorem beginEvent_streams (s : State) : (s.beginEvent).streams = s.streams := rfl
@[simp] theorem beginEvent_waitList (s : State) : (s.beginEvent).waitList = s.waitList := rfl
@[simp] theorem beginEvent_engine (s : State) : (s.beginEvent).engine = s.engine := rfl
@[simp] theorem beginEvent_channels (s : State) : (s.beginEvent).channels = s.channels := rfl
@[simp] theorem beginEvent_records (s : State) : (s.beginEvent).records = s.records := rfl
@[simp] theorem beginEvent_pwq (s : State) : (s.beginEvent).pwq = s.pwq := rfl
@[simp] theorem beginEvent_nextEntry (s : State) : (s.beginEvent).nextEntry = s.nextEntry := rfl
@[simp] theorem beginEvent_port (s : State) : (s.beginEvent).port = s.port := rfl
@[simp] theorem beginEvent_drain (s : State) : (s.beginEvent).drain = s.drain := rfl
@[simp] theorem beginEvent_log (s : State) : (s.beginEvent).log = s.log := rfl
@[simp] theorem beginEvent_link (s : State) : (s.beginEvent).link = s.link := rfl
@[simp] theorem beginEvent_porst (s : State) : (s.beginEvent).porst = s.porst := rfl
@[simp] theorem beginEvent_out (s : State) :
    (s.beginEvent).out = Out.quiet := rfl
@[simp] theorem beginEvent_pending (s : State) : (s.beginEvent).pending = s.pending := rfl
@[simp] theorem beginEvent_slot (s : State) (c' : Ctx) (w' : WinIx) : (s.beginEvent).slot c' w' = s.slot c' w' := rfl
@[simp] theorem beginEvent_version (s : State) (c' : Ctx) : (s.beginEvent).version c' = s.version c' := rfl
@[simp] theorem beginEvent_channel (s : State) (m' : Master) : (s.beginEvent).channel m' = s.channel m' := rfl
@[simp] theorem beginEvent_record (s : State) (m' : Master) : (s.beginEvent).record m' = s.record m' := rfl
@[simp] theorem beginEvent_stream (s : State) (m' : Master) : (s.beginEvent).stream m' = s.stream m' := rfl
@[simp] theorem beginEvent_binding (s : State) (m' : Master) : (s.beginEvent).binding m' = s.binding m' := rfl
@[simp] theorem beginEvent_tag (s : State) (t' : TagNo) : (s.beginEvent).tag t' = s.tag t' := rfl

/-! ### setChannel -/

@[simp] theorem setChannel_windows (s : State) (m : Master) (c : Channel) : (s.setChannel m c).windows = s.windows := rfl
@[simp] theorem setChannel_staging (s : State) (m : Master) (c : Channel) : (s.setChannel m c).staging = s.staging := rfl
@[simp] theorem setChannel_bindings (s : State) (m : Master) (c : Channel) : (s.setChannel m c).bindings = s.bindings := rfl
@[simp] theorem setChannel_streams (s : State) (m : Master) (c : Channel) : (s.setChannel m c).streams = s.streams := rfl
@[simp] theorem setChannel_waitList (s : State) (m : Master) (c : Channel) : (s.setChannel m c).waitList = s.waitList := rfl
@[simp] theorem setChannel_engine (s : State) (m : Master) (c : Channel) : (s.setChannel m c).engine = s.engine := rfl
@[simp] theorem setChannel_channels (s : State) (m : Master) (c : Channel) :
    (s.setChannel m c).channels = s.channels.set m c := rfl
@[simp] theorem setChannel_records (s : State) (m : Master) (c : Channel) : (s.setChannel m c).records = s.records := rfl
@[simp] theorem setChannel_pwq (s : State) (m : Master) (c : Channel) : (s.setChannel m c).pwq = s.pwq := rfl
@[simp] theorem setChannel_nextEntry (s : State) (m : Master) (c : Channel) : (s.setChannel m c).nextEntry = s.nextEntry := rfl
@[simp] theorem setChannel_port (s : State) (m : Master) (c : Channel) : (s.setChannel m c).port = s.port := rfl
@[simp] theorem setChannel_drain (s : State) (m : Master) (c : Channel) : (s.setChannel m c).drain = s.drain := rfl
@[simp] theorem setChannel_log (s : State) (m : Master) (c : Channel) : (s.setChannel m c).log = s.log := rfl
@[simp] theorem setChannel_link (s : State) (m : Master) (c : Channel) : (s.setChannel m c).link = s.link := rfl
@[simp] theorem setChannel_porst (s : State) (m : Master) (c : Channel) : (s.setChannel m c).porst = s.porst := rfl
@[simp] theorem setChannel_out (s : State) (m : Master) (c : Channel) : (s.setChannel m c).out = s.out := rfl
@[simp] theorem setChannel_pending (s : State) (m : Master) (c : Channel) : (s.setChannel m c).pending = s.pending := rfl
@[simp] theorem setChannel_slot (s : State) (m : Master) (c : Channel) (c' : Ctx) (w' : WinIx) : (s.setChannel m c).slot c' w' = s.slot c' w' := rfl
@[simp] theorem setChannel_version (s : State) (m : Master) (c : Channel) (c' : Ctx) : (s.setChannel m c).version c' = s.version c' := rfl
@[simp] theorem setChannel_record (s : State) (m : Master) (c : Channel) (m' : Master) : (s.setChannel m c).record m' = s.record m' := rfl
@[simp] theorem setChannel_stream (s : State) (m : Master) (c : Channel) (m' : Master) : (s.setChannel m c).stream m' = s.stream m' := rfl
@[simp] theorem setChannel_binding (s : State) (m : Master) (c : Channel) (m' : Master) : (s.setChannel m c).binding m' = s.binding m' := rfl
@[simp] theorem setChannel_tag (s : State) (m : Master) (c : Channel) (t' : TagNo) : (s.setChannel m c).tag t' = s.tag t' := rfl

/-! ### setRecord -/

@[simp] theorem setRecord_windows (s : State) (m : Master) (r : Option Request) : (s.setRecord m r).windows = s.windows := rfl
@[simp] theorem setRecord_staging (s : State) (m : Master) (r : Option Request) : (s.setRecord m r).staging = s.staging := rfl
@[simp] theorem setRecord_bindings (s : State) (m : Master) (r : Option Request) : (s.setRecord m r).bindings = s.bindings := rfl
@[simp] theorem setRecord_streams (s : State) (m : Master) (r : Option Request) : (s.setRecord m r).streams = s.streams := rfl
@[simp] theorem setRecord_waitList (s : State) (m : Master) (r : Option Request) : (s.setRecord m r).waitList = s.waitList := rfl
@[simp] theorem setRecord_engine (s : State) (m : Master) (r : Option Request) : (s.setRecord m r).engine = s.engine := rfl
@[simp] theorem setRecord_channels (s : State) (m : Master) (r : Option Request) : (s.setRecord m r).channels = s.channels := rfl
@[simp] theorem setRecord_records (s : State) (m : Master) (r : Option Request) :
    (s.setRecord m r).records = s.records.set m r := rfl
@[simp] theorem setRecord_pwq (s : State) (m : Master) (r : Option Request) : (s.setRecord m r).pwq = s.pwq := rfl
@[simp] theorem setRecord_nextEntry (s : State) (m : Master) (r : Option Request) : (s.setRecord m r).nextEntry = s.nextEntry := rfl
@[simp] theorem setRecord_port (s : State) (m : Master) (r : Option Request) : (s.setRecord m r).port = s.port := rfl
@[simp] theorem setRecord_drain (s : State) (m : Master) (r : Option Request) : (s.setRecord m r).drain = s.drain := rfl
@[simp] theorem setRecord_log (s : State) (m : Master) (r : Option Request) : (s.setRecord m r).log = s.log := rfl
@[simp] theorem setRecord_link (s : State) (m : Master) (r : Option Request) : (s.setRecord m r).link = s.link := rfl
@[simp] theorem setRecord_porst (s : State) (m : Master) (r : Option Request) : (s.setRecord m r).porst = s.porst := rfl
@[simp] theorem setRecord_out (s : State) (m : Master) (r : Option Request) : (s.setRecord m r).out = s.out := rfl
@[simp] theorem setRecord_pending (s : State) (m : Master) (r : Option Request) : (s.setRecord m r).pending = s.pending := rfl
@[simp] theorem setRecord_slot (s : State) (m : Master) (r : Option Request) (c' : Ctx) (w' : WinIx) : (s.setRecord m r).slot c' w' = s.slot c' w' := rfl
@[simp] theorem setRecord_version (s : State) (m : Master) (r : Option Request) (c' : Ctx) : (s.setRecord m r).version c' = s.version c' := rfl
@[simp] theorem setRecord_channel (s : State) (m : Master) (r : Option Request) (m' : Master) : (s.setRecord m r).channel m' = s.channel m' := rfl
@[simp] theorem setRecord_stream (s : State) (m : Master) (r : Option Request) (m' : Master) : (s.setRecord m r).stream m' = s.stream m' := rfl
@[simp] theorem setRecord_binding (s : State) (m : Master) (r : Option Request) (m' : Master) : (s.setRecord m r).binding m' = s.binding m' := rfl
@[simp] theorem setRecord_tag (s : State) (m : Master) (r : Option Request) (t' : TagNo) : (s.setRecord m r).tag t' = s.tag t' := rfl

/-! ### setStream -/

@[simp] theorem setStream_windows (s : State) (m : Master) (r : Option StreamRec) : (s.setStream m r).windows = s.windows := rfl
@[simp] theorem setStream_staging (s : State) (m : Master) (r : Option StreamRec) : (s.setStream m r).staging = s.staging := rfl
@[simp] theorem setStream_bindings (s : State) (m : Master) (r : Option StreamRec) : (s.setStream m r).bindings = s.bindings := rfl
@[simp] theorem setStream_streams (s : State) (m : Master) (r : Option StreamRec) :
    (s.setStream m r).streams = s.streams.set m r := rfl
@[simp] theorem setStream_waitList (s : State) (m : Master) (r : Option StreamRec) : (s.setStream m r).waitList = s.waitList := rfl
@[simp] theorem setStream_engine (s : State) (m : Master) (r : Option StreamRec) : (s.setStream m r).engine = s.engine := rfl
@[simp] theorem setStream_channels (s : State) (m : Master) (r : Option StreamRec) : (s.setStream m r).channels = s.channels := rfl
@[simp] theorem setStream_records (s : State) (m : Master) (r : Option StreamRec) : (s.setStream m r).records = s.records := rfl
@[simp] theorem setStream_pwq (s : State) (m : Master) (r : Option StreamRec) : (s.setStream m r).pwq = s.pwq := rfl
@[simp] theorem setStream_nextEntry (s : State) (m : Master) (r : Option StreamRec) : (s.setStream m r).nextEntry = s.nextEntry := rfl
@[simp] theorem setStream_port (s : State) (m : Master) (r : Option StreamRec) : (s.setStream m r).port = s.port := rfl
@[simp] theorem setStream_drain (s : State) (m : Master) (r : Option StreamRec) : (s.setStream m r).drain = s.drain := rfl
@[simp] theorem setStream_log (s : State) (m : Master) (r : Option StreamRec) : (s.setStream m r).log = s.log := rfl
@[simp] theorem setStream_link (s : State) (m : Master) (r : Option StreamRec) : (s.setStream m r).link = s.link := rfl
@[simp] theorem setStream_porst (s : State) (m : Master) (r : Option StreamRec) : (s.setStream m r).porst = s.porst := rfl
@[simp] theorem setStream_out (s : State) (m : Master) (r : Option StreamRec) : (s.setStream m r).out = s.out := rfl
@[simp] theorem setStream_pending (s : State) (m : Master) (r : Option StreamRec) : (s.setStream m r).pending = s.pending := rfl
@[simp] theorem setStream_slot (s : State) (m : Master) (r : Option StreamRec) (c' : Ctx) (w' : WinIx) : (s.setStream m r).slot c' w' = s.slot c' w' := rfl
@[simp] theorem setStream_version (s : State) (m : Master) (r : Option StreamRec) (c' : Ctx) : (s.setStream m r).version c' = s.version c' := rfl
@[simp] theorem setStream_channel (s : State) (m : Master) (r : Option StreamRec) (m' : Master) : (s.setStream m r).channel m' = s.channel m' := rfl
@[simp] theorem setStream_record (s : State) (m : Master) (r : Option StreamRec) (m' : Master) : (s.setStream m r).record m' = s.record m' := rfl
@[simp] theorem setStream_binding (s : State) (m : Master) (r : Option StreamRec) (m' : Master) : (s.setStream m r).binding m' = s.binding m' := rfl
@[simp] theorem setStream_tag (s : State) (m : Master) (r : Option StreamRec) (t' : TagNo) : (s.setStream m r).tag t' = s.tag t' := rfl

/-! ### setBinding -/

@[simp] theorem setBinding_windows (s : State) (m : Master) (c : Option Ctx) : (s.setBinding m c).windows = s.windows := rfl
@[simp] theorem setBinding_staging (s : State) (m : Master) (c : Option Ctx) : (s.setBinding m c).staging = s.staging := rfl
@[simp] theorem setBinding_bindings (s : State) (m : Master) (c : Option Ctx) :
    (s.setBinding m c).bindings = s.bindings.set m c := rfl
@[simp] theorem setBinding_streams (s : State) (m : Master) (c : Option Ctx) : (s.setBinding m c).streams = s.streams := rfl
@[simp] theorem setBinding_waitList (s : State) (m : Master) (c : Option Ctx) : (s.setBinding m c).waitList = s.waitList := rfl
@[simp] theorem setBinding_engine (s : State) (m : Master) (c : Option Ctx) : (s.setBinding m c).engine = s.engine := rfl
@[simp] theorem setBinding_channels (s : State) (m : Master) (c : Option Ctx) : (s.setBinding m c).channels = s.channels := rfl
@[simp] theorem setBinding_records (s : State) (m : Master) (c : Option Ctx) : (s.setBinding m c).records = s.records := rfl
@[simp] theorem setBinding_pwq (s : State) (m : Master) (c : Option Ctx) : (s.setBinding m c).pwq = s.pwq := rfl
@[simp] theorem setBinding_nextEntry (s : State) (m : Master) (c : Option Ctx) : (s.setBinding m c).nextEntry = s.nextEntry := rfl
@[simp] theorem setBinding_port (s : State) (m : Master) (c : Option Ctx) : (s.setBinding m c).port = s.port := rfl
@[simp] theorem setBinding_drain (s : State) (m : Master) (c : Option Ctx) : (s.setBinding m c).drain = s.drain := rfl
@[simp] theorem setBinding_log (s : State) (m : Master) (c : Option Ctx) : (s.setBinding m c).log = s.log := rfl
@[simp] theorem setBinding_link (s : State) (m : Master) (c : Option Ctx) : (s.setBinding m c).link = s.link := rfl
@[simp] theorem setBinding_porst (s : State) (m : Master) (c : Option Ctx) : (s.setBinding m c).porst = s.porst := rfl
@[simp] theorem setBinding_out (s : State) (m : Master) (c : Option Ctx) : (s.setBinding m c).out = s.out := rfl
@[simp] theorem setBinding_pending (s : State) (m : Master) (c : Option Ctx) : (s.setBinding m c).pending = s.pending := rfl
@[simp] theorem setBinding_slot (s : State) (m : Master) (c : Option Ctx) (c' : Ctx) (w' : WinIx) : (s.setBinding m c).slot c' w' = s.slot c' w' := rfl
@[simp] theorem setBinding_version (s : State) (m : Master) (c : Option Ctx) (c' : Ctx) : (s.setBinding m c).version c' = s.version c' := rfl
@[simp] theorem setBinding_channel (s : State) (m : Master) (c : Option Ctx) (m' : Master) : (s.setBinding m c).channel m' = s.channel m' := rfl
@[simp] theorem setBinding_record (s : State) (m : Master) (c : Option Ctx) (m' : Master) : (s.setBinding m c).record m' = s.record m' := rfl
@[simp] theorem setBinding_stream (s : State) (m : Master) (c : Option Ctx) (m' : Master) : (s.setBinding m c).stream m' = s.stream m' := rfl
@[simp] theorem setBinding_tag (s : State) (m : Master) (c : Option Ctx) (t' : TagNo) : (s.setBinding m c).tag t' = s.tag t' := rfl

/-! ### setTag -/

@[simp] theorem setTag_windows (s : State) (t : TagNo) (g : Tag) : (s.setTag t g).windows = s.windows := rfl
@[simp] theorem setTag_staging (s : State) (t : TagNo) (g : Tag) : (s.setTag t g).staging = s.staging := rfl
@[simp] theorem setTag_bindings (s : State) (t : TagNo) (g : Tag) : (s.setTag t g).bindings = s.bindings := rfl
@[simp] theorem setTag_streams (s : State) (t : TagNo) (g : Tag) : (s.setTag t g).streams = s.streams := rfl
@[simp] theorem setTag_waitList (s : State) (t : TagNo) (g : Tag) : (s.setTag t g).waitList = s.waitList := rfl
@[simp] theorem setTag_engine (s : State) (t : TagNo) (g : Tag) : (s.setTag t g).engine = s.engine := rfl
@[simp] theorem setTag_channels (s : State) (t : TagNo) (g : Tag) : (s.setTag t g).channels = s.channels := rfl
@[simp] theorem setTag_records (s : State) (t : TagNo) (g : Tag) : (s.setTag t g).records = s.records := rfl
@[simp] theorem setTag_pwq (s : State) (t : TagNo) (g : Tag) : (s.setTag t g).pwq = s.pwq := rfl
@[simp] theorem setTag_nextEntry (s : State) (t : TagNo) (g : Tag) : (s.setTag t g).nextEntry = s.nextEntry := rfl
@[simp] theorem setTag_port (s : State) (t : TagNo) (g : Tag) :
    (s.setTag t g).port = { s.port with tags := s.port.tags.set t g } := rfl
@[simp] theorem setTag_drain (s : State) (t : TagNo) (g : Tag) : (s.setTag t g).drain = s.drain := rfl
@[simp] theorem setTag_log (s : State) (t : TagNo) (g : Tag) : (s.setTag t g).log = s.log := rfl
@[simp] theorem setTag_link (s : State) (t : TagNo) (g : Tag) : (s.setTag t g).link = s.link := rfl
@[simp] theorem setTag_porst (s : State) (t : TagNo) (g : Tag) : (s.setTag t g).porst = s.porst := rfl
@[simp] theorem setTag_out (s : State) (t : TagNo) (g : Tag) : (s.setTag t g).out = s.out := rfl
@[simp] theorem setTag_pending (s : State) (t : TagNo) (g : Tag) : (s.setTag t g).pending = s.pending := rfl
@[simp] theorem setTag_slot (s : State) (t : TagNo) (g : Tag) (c' : Ctx) (w' : WinIx) : (s.setTag t g).slot c' w' = s.slot c' w' := rfl
@[simp] theorem setTag_version (s : State) (t : TagNo) (g : Tag) (c' : Ctx) : (s.setTag t g).version c' = s.version c' := rfl
@[simp] theorem setTag_channel (s : State) (t : TagNo) (g : Tag) (m' : Master) : (s.setTag t g).channel m' = s.channel m' := rfl
@[simp] theorem setTag_record (s : State) (t : TagNo) (g : Tag) (m' : Master) : (s.setTag t g).record m' = s.record m' := rfl
@[simp] theorem setTag_stream (s : State) (t : TagNo) (g : Tag) (m' : Master) : (s.setTag t g).stream m' = s.stream m' := rfl
@[simp] theorem setTag_binding (s : State) (t : TagNo) (g : Tag) (m' : Master) : (s.setTag t g).binding m' = s.binding m' := rfl

/-! ### freeTag -/

@[simp] theorem freeTag_windows (s : State) (t : TagNo) : (s.freeTag t).windows = s.windows := rfl
@[simp] theorem freeTag_staging (s : State) (t : TagNo) : (s.freeTag t).staging = s.staging := rfl
@[simp] theorem freeTag_bindings (s : State) (t : TagNo) : (s.freeTag t).bindings = s.bindings := rfl
@[simp] theorem freeTag_streams (s : State) (t : TagNo) : (s.freeTag t).streams = s.streams := rfl
@[simp] theorem freeTag_waitList (s : State) (t : TagNo) : (s.freeTag t).waitList = s.waitList := rfl
@[simp] theorem freeTag_engine (s : State) (t : TagNo) : (s.freeTag t).engine = s.engine := rfl
@[simp] theorem freeTag_channels (s : State) (t : TagNo) : (s.freeTag t).channels = s.channels := rfl
@[simp] theorem freeTag_records (s : State) (t : TagNo) : (s.freeTag t).records = s.records := rfl
@[simp] theorem freeTag_pwq (s : State) (t : TagNo) : (s.freeTag t).pwq = s.pwq := rfl
@[simp] theorem freeTag_nextEntry (s : State) (t : TagNo) : (s.freeTag t).nextEntry = s.nextEntry := rfl
@[simp] theorem freeTag_port (s : State) (t : TagNo) :
    (s.freeTag t).port = { s.port with tags := s.port.tags.set t { s.tag t with state := .free } } := rfl
@[simp] theorem freeTag_drain (s : State) (t : TagNo) : (s.freeTag t).drain = s.drain := rfl
@[simp] theorem freeTag_log (s : State) (t : TagNo) : (s.freeTag t).log = s.log := rfl
@[simp] theorem freeTag_link (s : State) (t : TagNo) : (s.freeTag t).link = s.link := rfl
@[simp] theorem freeTag_porst (s : State) (t : TagNo) : (s.freeTag t).porst = s.porst := rfl
@[simp] theorem freeTag_out (s : State) (t : TagNo) : (s.freeTag t).out = s.out := rfl
@[simp] theorem freeTag_pending (s : State) (t : TagNo) : (s.freeTag t).pending = s.pending := rfl
@[simp] theorem freeTag_slot (s : State) (t : TagNo) (c' : Ctx) (w' : WinIx) : (s.freeTag t).slot c' w' = s.slot c' w' := rfl
@[simp] theorem freeTag_version (s : State) (t : TagNo) (c' : Ctx) : (s.freeTag t).version c' = s.version c' := rfl
@[simp] theorem freeTag_channel (s : State) (t : TagNo) (m' : Master) : (s.freeTag t).channel m' = s.channel m' := rfl
@[simp] theorem freeTag_record (s : State) (t : TagNo) (m' : Master) : (s.freeTag t).record m' = s.record m' := rfl
@[simp] theorem freeTag_stream (s : State) (t : TagNo) (m' : Master) : (s.freeTag t).stream m' = s.stream m' := rfl
@[simp] theorem freeTag_binding (s : State) (t : TagNo) (m' : Master) : (s.freeTag t).binding m' = s.binding m' := rfl

/-! ### startTag -/

@[simp] theorem startTag_windows (s : State) (t : TagNo) (word : WordAddr) (work : Work) (owner : Owner) : (s.startTag t word work owner).windows = s.windows := rfl
@[simp] theorem startTag_staging (s : State) (t : TagNo) (word : WordAddr) (work : Work) (owner : Owner) : (s.startTag t word work owner).staging = s.staging := rfl
@[simp] theorem startTag_bindings (s : State) (t : TagNo) (word : WordAddr) (work : Work) (owner : Owner) : (s.startTag t word work owner).bindings = s.bindings := rfl
@[simp] theorem startTag_streams (s : State) (t : TagNo) (word : WordAddr) (work : Work) (owner : Owner) : (s.startTag t word work owner).streams = s.streams := rfl
@[simp] theorem startTag_waitList (s : State) (t : TagNo) (word : WordAddr) (work : Work) (owner : Owner) : (s.startTag t word work owner).waitList = s.waitList := rfl
@[simp] theorem startTag_engine (s : State) (t : TagNo) (word : WordAddr) (work : Work) (owner : Owner) : (s.startTag t word work owner).engine = s.engine := rfl
@[simp] theorem startTag_channels (s : State) (t : TagNo) (word : WordAddr) (work : Work) (owner : Owner) : (s.startTag t word work owner).channels = s.channels := rfl
@[simp] theorem startTag_records (s : State) (t : TagNo) (word : WordAddr) (work : Work) (owner : Owner) : (s.startTag t word work owner).records = s.records := rfl
@[simp] theorem startTag_pwq (s : State) (t : TagNo) (word : WordAddr) (work : Work) (owner : Owner) : (s.startTag t word work owner).pwq = s.pwq := rfl
@[simp] theorem startTag_nextEntry (s : State) (t : TagNo) (word : WordAddr) (work : Work) (owner : Owner) : (s.startTag t word work owner).nextEntry = s.nextEntry := rfl
@[simp] theorem startTag_port (s : State) (t : TagNo) (word : WordAddr) (work : Work) (owner : Owner) :
    (s.startTag t word work owner).port = { s.port with tags := s.port.tags.set t { state := .live { word := word, work := work, owner := owner, count := s.port.deadline }, lastWord := word } } := rfl
@[simp] theorem startTag_drain (s : State) (t : TagNo) (word : WordAddr) (work : Work) (owner : Owner) : (s.startTag t word work owner).drain = s.drain := rfl
@[simp] theorem startTag_log (s : State) (t : TagNo) (word : WordAddr) (work : Work) (owner : Owner) : (s.startTag t word work owner).log = s.log := rfl
@[simp] theorem startTag_link (s : State) (t : TagNo) (word : WordAddr) (work : Work) (owner : Owner) : (s.startTag t word work owner).link = s.link := rfl
@[simp] theorem startTag_porst (s : State) (t : TagNo) (word : WordAddr) (work : Work) (owner : Owner) : (s.startTag t word work owner).porst = s.porst := rfl
@[simp] theorem startTag_out (s : State) (t : TagNo) (word : WordAddr) (work : Work) (owner : Owner) : (s.startTag t word work owner).out = s.out := rfl
@[simp] theorem startTag_pending (s : State) (t : TagNo) (word : WordAddr) (work : Work) (owner : Owner) : (s.startTag t word work owner).pending = s.pending := rfl
@[simp] theorem startTag_slot (s : State) (t : TagNo) (word : WordAddr) (work : Work) (owner : Owner) (c' : Ctx) (w' : WinIx) : (s.startTag t word work owner).slot c' w' = s.slot c' w' := rfl
@[simp] theorem startTag_version (s : State) (t : TagNo) (word : WordAddr) (work : Work) (owner : Owner) (c' : Ctx) : (s.startTag t word work owner).version c' = s.version c' := rfl
@[simp] theorem startTag_channel (s : State) (t : TagNo) (word : WordAddr) (work : Work) (owner : Owner) (m' : Master) : (s.startTag t word work owner).channel m' = s.channel m' := rfl
@[simp] theorem startTag_record (s : State) (t : TagNo) (word : WordAddr) (work : Work) (owner : Owner) (m' : Master) : (s.startTag t word work owner).record m' = s.record m' := rfl
@[simp] theorem startTag_stream (s : State) (t : TagNo) (word : WordAddr) (work : Work) (owner : Owner) (m' : Master) : (s.startTag t word work owner).stream m' = s.stream m' := rfl
@[simp] theorem startTag_binding (s : State) (t : TagNo) (word : WordAddr) (work : Work) (owner : Owner) (m' : Master) : (s.startTag t word work owner).binding m' = s.binding m' := rfl

/-! ### setPointer -/

@[simp] theorem setPointer_windows (s : State) (src : Source) : (s.setPointer src).windows = s.windows := rfl
@[simp] theorem setPointer_staging (s : State) (src : Source) : (s.setPointer src).staging = s.staging := rfl
@[simp] theorem setPointer_bindings (s : State) (src : Source) : (s.setPointer src).bindings = s.bindings := rfl
@[simp] theorem setPointer_streams (s : State) (src : Source) : (s.setPointer src).streams = s.streams := rfl
@[simp] theorem setPointer_waitList (s : State) (src : Source) : (s.setPointer src).waitList = s.waitList := rfl
@[simp] theorem setPointer_engine (s : State) (src : Source) : (s.setPointer src).engine = s.engine := rfl
@[simp] theorem setPointer_channels (s : State) (src : Source) : (s.setPointer src).channels = s.channels := rfl
@[simp] theorem setPointer_records (s : State) (src : Source) : (s.setPointer src).records = s.records := rfl
@[simp] theorem setPointer_pwq (s : State) (src : Source) : (s.setPointer src).pwq = s.pwq := rfl
@[simp] theorem setPointer_nextEntry (s : State) (src : Source) : (s.setPointer src).nextEntry = s.nextEntry := rfl
@[simp] theorem setPointer_port (s : State) (src : Source) :
    (s.setPointer src).port = { s.port with pointer := src } := rfl
@[simp] theorem setPointer_drain (s : State) (src : Source) : (s.setPointer src).drain = s.drain := rfl
@[simp] theorem setPointer_log (s : State) (src : Source) : (s.setPointer src).log = s.log := rfl
@[simp] theorem setPointer_link (s : State) (src : Source) : (s.setPointer src).link = s.link := rfl
@[simp] theorem setPointer_porst (s : State) (src : Source) : (s.setPointer src).porst = s.porst := rfl
@[simp] theorem setPointer_out (s : State) (src : Source) : (s.setPointer src).out = s.out := rfl
@[simp] theorem setPointer_pending (s : State) (src : Source) : (s.setPointer src).pending = s.pending := rfl
@[simp] theorem setPointer_slot (s : State) (src : Source) (c' : Ctx) (w' : WinIx) : (s.setPointer src).slot c' w' = s.slot c' w' := rfl
@[simp] theorem setPointer_version (s : State) (src : Source) (c' : Ctx) : (s.setPointer src).version c' = s.version c' := rfl
@[simp] theorem setPointer_channel (s : State) (src : Source) (m' : Master) : (s.setPointer src).channel m' = s.channel m' := rfl
@[simp] theorem setPointer_record (s : State) (src : Source) (m' : Master) : (s.setPointer src).record m' = s.record m' := rfl
@[simp] theorem setPointer_stream (s : State) (src : Source) (m' : Master) : (s.setPointer src).stream m' = s.stream m' := rfl
@[simp] theorem setPointer_binding (s : State) (src : Source) (m' : Master) : (s.setPointer src).binding m' = s.binding m' := rfl

/-! ### sendReply -/

@[simp] theorem sendReply_windows (s : State) (m : Master) (r : Reply) : (s.sendReply m r).windows = s.windows := rfl
@[simp] theorem sendReply_staging (s : State) (m : Master) (r : Reply) : (s.sendReply m r).staging = s.staging := rfl
@[simp] theorem sendReply_bindings (s : State) (m : Master) (r : Reply) : (s.sendReply m r).bindings = s.bindings := rfl
@[simp] theorem sendReply_streams (s : State) (m : Master) (r : Reply) : (s.sendReply m r).streams = s.streams := rfl
@[simp] theorem sendReply_waitList (s : State) (m : Master) (r : Reply) : (s.sendReply m r).waitList = s.waitList := rfl
@[simp] theorem sendReply_engine (s : State) (m : Master) (r : Reply) : (s.sendReply m r).engine = s.engine := rfl
@[simp] theorem sendReply_channels (s : State) (m : Master) (r : Reply) : (s.sendReply m r).channels = s.channels := rfl
@[simp] theorem sendReply_records (s : State) (m : Master) (r : Reply) : (s.sendReply m r).records = s.records := rfl
@[simp] theorem sendReply_pwq (s : State) (m : Master) (r : Reply) : (s.sendReply m r).pwq = s.pwq := rfl
@[simp] theorem sendReply_nextEntry (s : State) (m : Master) (r : Reply) : (s.sendReply m r).nextEntry = s.nextEntry := rfl
@[simp] theorem sendReply_port (s : State) (m : Master) (r : Reply) : (s.sendReply m r).port = s.port := rfl
@[simp] theorem sendReply_drain (s : State) (m : Master) (r : Reply) : (s.sendReply m r).drain = s.drain := rfl
@[simp] theorem sendReply_log (s : State) (m : Master) (r : Reply) : (s.sendReply m r).log = s.log := rfl
@[simp] theorem sendReply_link (s : State) (m : Master) (r : Reply) : (s.sendReply m r).link = s.link := rfl
@[simp] theorem sendReply_porst (s : State) (m : Master) (r : Reply) : (s.sendReply m r).porst = s.porst := rfl
@[simp] theorem sendReply_out (s : State) (m : Master) (r : Reply) :
    (s.sendReply m r).out = { s.out with replies := s.out.replies.set m (some r) } := rfl
@[simp] theorem sendReply_pending (s : State) (m : Master) (r : Reply) : (s.sendReply m r).pending = s.pending := rfl
@[simp] theorem sendReply_slot (s : State) (m : Master) (r : Reply) (c' : Ctx) (w' : WinIx) : (s.sendReply m r).slot c' w' = s.slot c' w' := rfl
@[simp] theorem sendReply_version (s : State) (m : Master) (r : Reply) (c' : Ctx) : (s.sendReply m r).version c' = s.version c' := rfl
@[simp] theorem sendReply_channel (s : State) (m : Master) (r : Reply) (m' : Master) : (s.sendReply m r).channel m' = s.channel m' := rfl
@[simp] theorem sendReply_record (s : State) (m : Master) (r : Reply) (m' : Master) : (s.sendReply m r).record m' = s.record m' := rfl
@[simp] theorem sendReply_stream (s : State) (m : Master) (r : Reply) (m' : Master) : (s.sendReply m r).stream m' = s.stream m' := rfl
@[simp] theorem sendReply_binding (s : State) (m : Master) (r : Reply) (m' : Master) : (s.sendReply m r).binding m' = s.binding m' := rfl
@[simp] theorem sendReply_tag (s : State) (m : Master) (r : Reply) (t' : TagNo) : (s.sendReply m r).tag t' = s.tag t' := rfl

/-! ### sendCommand -/

@[simp] theorem sendCommand_windows (s : State) (c : MemCommand) : (s.sendCommand c).windows = s.windows := rfl
@[simp] theorem sendCommand_staging (s : State) (c : MemCommand) : (s.sendCommand c).staging = s.staging := rfl
@[simp] theorem sendCommand_bindings (s : State) (c : MemCommand) : (s.sendCommand c).bindings = s.bindings := rfl
@[simp] theorem sendCommand_streams (s : State) (c : MemCommand) : (s.sendCommand c).streams = s.streams := rfl
@[simp] theorem sendCommand_waitList (s : State) (c : MemCommand) : (s.sendCommand c).waitList = s.waitList := rfl
@[simp] theorem sendCommand_engine (s : State) (c : MemCommand) : (s.sendCommand c).engine = s.engine := rfl
@[simp] theorem sendCommand_channels (s : State) (c : MemCommand) : (s.sendCommand c).channels = s.channels := rfl
@[simp] theorem sendCommand_records (s : State) (c : MemCommand) : (s.sendCommand c).records = s.records := rfl
@[simp] theorem sendCommand_pwq (s : State) (c : MemCommand) : (s.sendCommand c).pwq = s.pwq := rfl
@[simp] theorem sendCommand_nextEntry (s : State) (c : MemCommand) : (s.sendCommand c).nextEntry = s.nextEntry := rfl
@[simp] theorem sendCommand_port (s : State) (c : MemCommand) : (s.sendCommand c).port = s.port := rfl
@[simp] theorem sendCommand_drain (s : State) (c : MemCommand) : (s.sendCommand c).drain = s.drain := rfl
@[simp] theorem sendCommand_log (s : State) (c : MemCommand) : (s.sendCommand c).log = s.log := rfl
@[simp] theorem sendCommand_link (s : State) (c : MemCommand) : (s.sendCommand c).link = s.link := rfl
@[simp] theorem sendCommand_porst (s : State) (c : MemCommand) : (s.sendCommand c).porst = s.porst := rfl
@[simp] theorem sendCommand_out (s : State) (c : MemCommand) :
    (s.sendCommand c).out = { s.out with command := some c } := rfl
@[simp] theorem sendCommand_pending (s : State) (c : MemCommand) : (s.sendCommand c).pending = s.pending := rfl
@[simp] theorem sendCommand_slot (s : State) (c : MemCommand) (c' : Ctx) (w' : WinIx) : (s.sendCommand c).slot c' w' = s.slot c' w' := rfl
@[simp] theorem sendCommand_version (s : State) (c : MemCommand) (c' : Ctx) : (s.sendCommand c).version c' = s.version c' := rfl
@[simp] theorem sendCommand_channel (s : State) (c : MemCommand) (m' : Master) : (s.sendCommand c).channel m' = s.channel m' := rfl
@[simp] theorem sendCommand_record (s : State) (c : MemCommand) (m' : Master) : (s.sendCommand c).record m' = s.record m' := rfl
@[simp] theorem sendCommand_stream (s : State) (c : MemCommand) (m' : Master) : (s.sendCommand c).stream m' = s.stream m' := rfl
@[simp] theorem sendCommand_binding (s : State) (c : MemCommand) (m' : Master) : (s.sendCommand c).binding m' = s.binding m' := rfl
@[simp] theorem sendCommand_tag (s : State) (c : MemCommand) (t' : TagNo) : (s.sendCommand c).tag t' = s.tag t' := rfl

/-! ### handIn -/

@[simp] theorem handIn_windows (s : State) (b : FaultBody) : (s.handIn b).windows = s.windows := rfl
@[simp] theorem handIn_staging (s : State) (b : FaultBody) : (s.handIn b).staging = s.staging := rfl
@[simp] theorem handIn_bindings (s : State) (b : FaultBody) : (s.handIn b).bindings = s.bindings := rfl
@[simp] theorem handIn_streams (s : State) (b : FaultBody) : (s.handIn b).streams = s.streams := rfl
@[simp] theorem handIn_waitList (s : State) (b : FaultBody) : (s.handIn b).waitList = s.waitList := rfl
@[simp] theorem handIn_engine (s : State) (b : FaultBody) : (s.handIn b).engine = s.engine := rfl
@[simp] theorem handIn_channels (s : State) (b : FaultBody) : (s.handIn b).channels = s.channels := rfl
@[simp] theorem handIn_records (s : State) (b : FaultBody) : (s.handIn b).records = s.records := rfl
@[simp] theorem handIn_pwq (s : State) (b : FaultBody) : (s.handIn b).pwq = s.pwq := rfl
@[simp] theorem handIn_nextEntry (s : State) (b : FaultBody) : (s.handIn b).nextEntry = s.nextEntry := rfl
@[simp] theorem handIn_port (s : State) (b : FaultBody) : (s.handIn b).port = s.port := rfl
@[simp] theorem handIn_drain (s : State) (b : FaultBody) : (s.handIn b).drain = s.drain := rfl
@[simp] theorem handIn_log (s : State) (b : FaultBody) :
    (s.handIn b).log = s.log.handIn b := rfl
@[simp] theorem handIn_link (s : State) (b : FaultBody) : (s.handIn b).link = s.link := rfl
@[simp] theorem handIn_porst (s : State) (b : FaultBody) : (s.handIn b).porst = s.porst := rfl
@[simp] theorem handIn_out (s : State) (b : FaultBody) : (s.handIn b).out = s.out := rfl
@[simp] theorem handIn_pending (s : State) (b : FaultBody) : (s.handIn b).pending = s.pending := rfl
@[simp] theorem handIn_slot (s : State) (b : FaultBody) (c' : Ctx) (w' : WinIx) : (s.handIn b).slot c' w' = s.slot c' w' := rfl
@[simp] theorem handIn_version (s : State) (b : FaultBody) (c' : Ctx) : (s.handIn b).version c' = s.version c' := rfl
@[simp] theorem handIn_channel (s : State) (b : FaultBody) (m' : Master) : (s.handIn b).channel m' = s.channel m' := rfl
@[simp] theorem handIn_record (s : State) (b : FaultBody) (m' : Master) : (s.handIn b).record m' = s.record m' := rfl
@[simp] theorem handIn_stream (s : State) (b : FaultBody) (m' : Master) : (s.handIn b).stream m' = s.stream m' := rfl
@[simp] theorem handIn_binding (s : State) (b : FaultBody) (m' : Master) : (s.handIn b).binding m' = s.binding m' := rfl
@[simp] theorem handIn_tag (s : State) (b : FaultBody) (t' : TagNo) : (s.handIn b).tag t' = s.tag t' := rfl

/-! ### drainUpdate -/

@[simp] theorem drainUpdate_windows (s : State) (f : DrainJob → Member → Option Member) : (s.drainUpdate f).windows = s.windows := rfl
@[simp] theorem drainUpdate_staging (s : State) (f : DrainJob → Member → Option Member) : (s.drainUpdate f).staging = s.staging := rfl
@[simp] theorem drainUpdate_bindings (s : State) (f : DrainJob → Member → Option Member) : (s.drainUpdate f).bindings = s.bindings := rfl
@[simp] theorem drainUpdate_streams (s : State) (f : DrainJob → Member → Option Member) : (s.drainUpdate f).streams = s.streams := rfl
@[simp] theorem drainUpdate_waitList (s : State) (f : DrainJob → Member → Option Member) : (s.drainUpdate f).waitList = s.waitList := rfl
@[simp] theorem drainUpdate_engine (s : State) (f : DrainJob → Member → Option Member) : (s.drainUpdate f).engine = s.engine := rfl
@[simp] theorem drainUpdate_channels (s : State) (f : DrainJob → Member → Option Member) : (s.drainUpdate f).channels = s.channels := rfl
@[simp] theorem drainUpdate_records (s : State) (f : DrainJob → Member → Option Member) : (s.drainUpdate f).records = s.records := rfl
@[simp] theorem drainUpdate_pwq (s : State) (f : DrainJob → Member → Option Member) : (s.drainUpdate f).pwq = s.pwq := rfl
@[simp] theorem drainUpdate_nextEntry (s : State) (f : DrainJob → Member → Option Member) : (s.drainUpdate f).nextEntry = s.nextEntry := rfl
@[simp] theorem drainUpdate_port (s : State) (f : DrainJob → Member → Option Member) : (s.drainUpdate f).port = s.port := rfl
@[simp] theorem drainUpdate_drain (s : State) (f : DrainJob → Member → Option Member) :
    (s.drainUpdate f).drain = s.drain.update f := rfl
@[simp] theorem drainUpdate_log (s : State) (f : DrainJob → Member → Option Member) : (s.drainUpdate f).log = s.log := rfl
@[simp] theorem drainUpdate_link (s : State) (f : DrainJob → Member → Option Member) : (s.drainUpdate f).link = s.link := rfl
@[simp] theorem drainUpdate_porst (s : State) (f : DrainJob → Member → Option Member) : (s.drainUpdate f).porst = s.porst := rfl
@[simp] theorem drainUpdate_out (s : State) (f : DrainJob → Member → Option Member) : (s.drainUpdate f).out = s.out := rfl
@[simp] theorem drainUpdate_pending (s : State) (f : DrainJob → Member → Option Member) : (s.drainUpdate f).pending = s.pending := rfl
@[simp] theorem drainUpdate_slot (s : State) (f : DrainJob → Member → Option Member) (c' : Ctx) (w' : WinIx) : (s.drainUpdate f).slot c' w' = s.slot c' w' := rfl
@[simp] theorem drainUpdate_version (s : State) (f : DrainJob → Member → Option Member) (c' : Ctx) : (s.drainUpdate f).version c' = s.version c' := rfl
@[simp] theorem drainUpdate_channel (s : State) (f : DrainJob → Member → Option Member) (m' : Master) : (s.drainUpdate f).channel m' = s.channel m' := rfl
@[simp] theorem drainUpdate_record (s : State) (f : DrainJob → Member → Option Member) (m' : Master) : (s.drainUpdate f).record m' = s.record m' := rfl
@[simp] theorem drainUpdate_stream (s : State) (f : DrainJob → Member → Option Member) (m' : Master) : (s.drainUpdate f).stream m' = s.stream m' := rfl
@[simp] theorem drainUpdate_binding (s : State) (f : DrainJob → Member → Option Member) (m' : Master) : (s.drainUpdate f).binding m' = s.binding m' := rfl
@[simp] theorem drainUpdate_tag (s : State) (f : DrainJob → Member → Option Member) (t' : TagNo) : (s.drainUpdate f).tag t' = s.tag t' := rfl

/-! ### beginDrain -/

@[simp] theorem beginDrain_windows (s : State) (job : DrainJob) (ms : List Member) : (s.beginDrain job ms).windows = s.windows := rfl
@[simp] theorem beginDrain_staging (s : State) (job : DrainJob) (ms : List Member) : (s.beginDrain job ms).staging = s.staging := rfl
@[simp] theorem beginDrain_bindings (s : State) (job : DrainJob) (ms : List Member) : (s.beginDrain job ms).bindings = s.bindings := rfl
@[simp] theorem beginDrain_streams (s : State) (job : DrainJob) (ms : List Member) : (s.beginDrain job ms).streams = s.streams := rfl
@[simp] theorem beginDrain_waitList (s : State) (job : DrainJob) (ms : List Member) : (s.beginDrain job ms).waitList = s.waitList := rfl
@[simp] theorem beginDrain_engine (s : State) (job : DrainJob) (ms : List Member) : (s.beginDrain job ms).engine = s.engine := rfl
@[simp] theorem beginDrain_channels (s : State) (job : DrainJob) (ms : List Member) : (s.beginDrain job ms).channels = s.channels := rfl
@[simp] theorem beginDrain_records (s : State) (job : DrainJob) (ms : List Member) : (s.beginDrain job ms).records = s.records := rfl
@[simp] theorem beginDrain_pwq (s : State) (job : DrainJob) (ms : List Member) : (s.beginDrain job ms).pwq = s.pwq := rfl
@[simp] theorem beginDrain_nextEntry (s : State) (job : DrainJob) (ms : List Member) : (s.beginDrain job ms).nextEntry = s.nextEntry := rfl
@[simp] theorem beginDrain_port (s : State) (job : DrainJob) (ms : List Member) : (s.beginDrain job ms).port = s.port := rfl
@[simp] theorem beginDrain_log (s : State) (job : DrainJob) (ms : List Member) : (s.beginDrain job ms).log = s.log := rfl
@[simp] theorem beginDrain_link (s : State) (job : DrainJob) (ms : List Member) : (s.beginDrain job ms).link = s.link := rfl
@[simp] theorem beginDrain_porst (s : State) (job : DrainJob) (ms : List Member) : (s.beginDrain job ms).porst = s.porst := rfl
@[simp] theorem beginDrain_out (s : State) (job : DrainJob) (ms : List Member) : (s.beginDrain job ms).out = s.out := rfl
@[simp] theorem beginDrain_pending (s : State) (job : DrainJob) (ms : List Member) : (s.beginDrain job ms).pending = s.pending := rfl
@[simp] theorem beginDrain_slot (s : State) (job : DrainJob) (ms : List Member) (c' : Ctx) (w' : WinIx) : (s.beginDrain job ms).slot c' w' = s.slot c' w' := rfl
@[simp] theorem beginDrain_version (s : State) (job : DrainJob) (ms : List Member) (c' : Ctx) : (s.beginDrain job ms).version c' = s.version c' := rfl
@[simp] theorem beginDrain_channel (s : State) (job : DrainJob) (ms : List Member) (m' : Master) : (s.beginDrain job ms).channel m' = s.channel m' := rfl
@[simp] theorem beginDrain_record (s : State) (job : DrainJob) (ms : List Member) (m' : Master) : (s.beginDrain job ms).record m' = s.record m' := rfl
@[simp] theorem beginDrain_stream (s : State) (job : DrainJob) (ms : List Member) (m' : Master) : (s.beginDrain job ms).stream m' = s.stream m' := rfl
@[simp] theorem beginDrain_binding (s : State) (job : DrainJob) (ms : List Member) (m' : Master) : (s.beginDrain job ms).binding m' = s.binding m' := rfl
@[simp] theorem beginDrain_tag (s : State) (job : DrainJob) (ms : List Member) (t' : TagNo) : (s.beginDrain job ms).tag t' = s.tag t' := rfl

/-! ### leaveEntry -/

@[simp] theorem leaveEntry_windows (s : State) (id : Nat) : (s.leaveEntry id).windows = s.windows := rfl
@[simp] theorem leaveEntry_staging (s : State) (id : Nat) : (s.leaveEntry id).staging = s.staging := rfl
@[simp] theorem leaveEntry_bindings (s : State) (id : Nat) : (s.leaveEntry id).bindings = s.bindings := rfl
@[simp] theorem leaveEntry_streams (s : State) (id : Nat) : (s.leaveEntry id).streams = s.streams := rfl
@[simp] theorem leaveEntry_waitList (s : State) (id : Nat) : (s.leaveEntry id).waitList = s.waitList := rfl
@[simp] theorem leaveEntry_engine (s : State) (id : Nat) : (s.leaveEntry id).engine = s.engine := rfl
@[simp] theorem leaveEntry_channels (s : State) (id : Nat) : (s.leaveEntry id).channels = s.channels := rfl
@[simp] theorem leaveEntry_records (s : State) (id : Nat) :
    (s.leaveEntry id).records = Vector.ofFn fun m : Master => (s.record m).map (Request.forget id) := rfl
@[simp] theorem leaveEntry_pwq (s : State) (id : Nat) :
    (s.leaveEntry id).pwq = s.pwq.filter (·.id ≠ id) := rfl
@[simp] theorem leaveEntry_nextEntry (s : State) (id : Nat) : (s.leaveEntry id).nextEntry = s.nextEntry := rfl
@[simp] theorem leaveEntry_port (s : State) (id : Nat) : (s.leaveEntry id).port = s.port := rfl
@[simp] theorem leaveEntry_drain (s : State) (id : Nat) :
    (s.leaveEntry id).drain = s.drain.update fun _ => Member.afterEntry id := rfl
@[simp] theorem leaveEntry_log (s : State) (id : Nat) : (s.leaveEntry id).log = s.log := rfl
@[simp] theorem leaveEntry_link (s : State) (id : Nat) : (s.leaveEntry id).link = s.link := rfl
@[simp] theorem leaveEntry_porst (s : State) (id : Nat) : (s.leaveEntry id).porst = s.porst := rfl
@[simp] theorem leaveEntry_out (s : State) (id : Nat) : (s.leaveEntry id).out = s.out := rfl
@[simp] theorem leaveEntry_pending (s : State) (id : Nat) : (s.leaveEntry id).pending = s.pending := rfl
@[simp] theorem leaveEntry_slot (s : State) (id : Nat) (c' : Ctx) (w' : WinIx) : (s.leaveEntry id).slot c' w' = s.slot c' w' := rfl
@[simp] theorem leaveEntry_version (s : State) (id : Nat) (c' : Ctx) : (s.leaveEntry id).version c' = s.version c' := rfl
@[simp] theorem leaveEntry_channel (s : State) (id : Nat) (m' : Master) : (s.leaveEntry id).channel m' = s.channel m' := rfl
@[simp] theorem leaveEntry_stream (s : State) (id : Nat) (m' : Master) : (s.leaveEntry id).stream m' = s.stream m' := rfl
@[simp] theorem leaveEntry_binding (s : State) (id : Nat) (m' : Master) : (s.leaveEntry id).binding m' = s.binding m' := rfl
@[simp] theorem leaveEntry_tag (s : State) (id : Nat) (t' : TagNo) : (s.leaveEntry id).tag t' = s.tag t' := rfl

/-! ### joinWaitList -/

@[simp] theorem joinWaitList_windows (s : State) (l : Lookup) : (s.joinWaitList l).windows = s.windows := rfl
@[simp] theorem joinWaitList_staging (s : State) (l : Lookup) : (s.joinWaitList l).staging = s.staging := rfl
@[simp] theorem joinWaitList_bindings (s : State) (l : Lookup) : (s.joinWaitList l).bindings = s.bindings := rfl
@[simp] theorem joinWaitList_streams (s : State) (l : Lookup) : (s.joinWaitList l).streams = s.streams := rfl
@[simp] theorem joinWaitList_waitList (s : State) (l : Lookup) :
    (s.joinWaitList l).waitList = s.waitList ++ [l] := rfl
@[simp] theorem joinWaitList_engine (s : State) (l : Lookup) : (s.joinWaitList l).engine = s.engine := rfl
@[simp] theorem joinWaitList_channels (s : State) (l : Lookup) : (s.joinWaitList l).channels = s.channels := rfl
@[simp] theorem joinWaitList_records (s : State) (l : Lookup) : (s.joinWaitList l).records = s.records := rfl
@[simp] theorem joinWaitList_pwq (s : State) (l : Lookup) : (s.joinWaitList l).pwq = s.pwq := rfl
@[simp] theorem joinWaitList_nextEntry (s : State) (l : Lookup) : (s.joinWaitList l).nextEntry = s.nextEntry := rfl
@[simp] theorem joinWaitList_port (s : State) (l : Lookup) : (s.joinWaitList l).port = s.port := rfl
@[simp] theorem joinWaitList_drain (s : State) (l : Lookup) : (s.joinWaitList l).drain = s.drain := rfl
@[simp] theorem joinWaitList_log (s : State) (l : Lookup) : (s.joinWaitList l).log = s.log := rfl
@[simp] theorem joinWaitList_link (s : State) (l : Lookup) : (s.joinWaitList l).link = s.link := rfl
@[simp] theorem joinWaitList_porst (s : State) (l : Lookup) : (s.joinWaitList l).porst = s.porst := rfl
@[simp] theorem joinWaitList_out (s : State) (l : Lookup) : (s.joinWaitList l).out = s.out := rfl
@[simp] theorem joinWaitList_pending (s : State) (l : Lookup) : (s.joinWaitList l).pending = s.pending := rfl
@[simp] theorem joinWaitList_slot (s : State) (l : Lookup) (c' : Ctx) (w' : WinIx) : (s.joinWaitList l).slot c' w' = s.slot c' w' := rfl
@[simp] theorem joinWaitList_version (s : State) (l : Lookup) (c' : Ctx) : (s.joinWaitList l).version c' = s.version c' := rfl
@[simp] theorem joinWaitList_channel (s : State) (l : Lookup) (m' : Master) : (s.joinWaitList l).channel m' = s.channel m' := rfl
@[simp] theorem joinWaitList_record (s : State) (l : Lookup) (m' : Master) : (s.joinWaitList l).record m' = s.record m' := rfl
@[simp] theorem joinWaitList_stream (s : State) (l : Lookup) (m' : Master) : (s.joinWaitList l).stream m' = s.stream m' := rfl
@[simp] theorem joinWaitList_binding (s : State) (l : Lookup) (m' : Master) : (s.joinWaitList l).binding m' = s.binding m' := rfl
@[simp] theorem joinWaitList_tag (s : State) (l : Lookup) (t' : TagNo) : (s.joinWaitList l).tag t' = s.tag t' := rfl

/-! ### takeOffer -/

@[simp] theorem takeOffer_windows (s : State) (m : Master) (o : Offer) : (s.takeOffer m o).windows = s.windows := rfl
@[simp] theorem takeOffer_staging (s : State) (m : Master) (o : Offer) : (s.takeOffer m o).staging = s.staging := rfl
@[simp] theorem takeOffer_bindings (s : State) (m : Master) (o : Offer) : (s.takeOffer m o).bindings = s.bindings := rfl
@[simp] theorem takeOffer_streams (s : State) (m : Master) (o : Offer) : (s.takeOffer m o).streams = s.streams := rfl
@[simp] theorem takeOffer_waitList (s : State) (m : Master) (o : Offer) : (s.takeOffer m o).waitList = s.waitList := rfl
@[simp] theorem takeOffer_engine (s : State) (m : Master) (o : Offer) : (s.takeOffer m o).engine = s.engine := rfl
@[simp] theorem takeOffer_channels (s : State) (m : Master) (o : Offer) :
    (s.takeOffer m o).channels = s.channels.set m { s.channel m with offer := some o, taken := true, serial := (s.channel m).serial + 1 } := rfl
@[simp] theorem takeOffer_records (s : State) (m : Master) (o : Offer) : (s.takeOffer m o).records = s.records := rfl
@[simp] theorem takeOffer_pwq (s : State) (m : Master) (o : Offer) : (s.takeOffer m o).pwq = s.pwq := rfl
@[simp] theorem takeOffer_nextEntry (s : State) (m : Master) (o : Offer) : (s.takeOffer m o).nextEntry = s.nextEntry := rfl
@[simp] theorem takeOffer_port (s : State) (m : Master) (o : Offer) : (s.takeOffer m o).port = s.port := rfl
@[simp] theorem takeOffer_drain (s : State) (m : Master) (o : Offer) : (s.takeOffer m o).drain = s.drain := rfl
@[simp] theorem takeOffer_log (s : State) (m : Master) (o : Offer) : (s.takeOffer m o).log = s.log := rfl
@[simp] theorem takeOffer_link (s : State) (m : Master) (o : Offer) : (s.takeOffer m o).link = s.link := rfl
@[simp] theorem takeOffer_porst (s : State) (m : Master) (o : Offer) : (s.takeOffer m o).porst = s.porst := rfl
@[simp] theorem takeOffer_out (s : State) (m : Master) (o : Offer) : (s.takeOffer m o).out = s.out := rfl
@[simp] theorem takeOffer_pending (s : State) (m : Master) (o : Offer) : (s.takeOffer m o).pending = s.pending := rfl
@[simp] theorem takeOffer_slot (s : State) (m : Master) (o : Offer) (c' : Ctx) (w' : WinIx) : (s.takeOffer m o).slot c' w' = s.slot c' w' := rfl
@[simp] theorem takeOffer_version (s : State) (m : Master) (o : Offer) (c' : Ctx) : (s.takeOffer m o).version c' = s.version c' := rfl
@[simp] theorem takeOffer_record (s : State) (m : Master) (o : Offer) (m' : Master) : (s.takeOffer m o).record m' = s.record m' := rfl
@[simp] theorem takeOffer_stream (s : State) (m : Master) (o : Offer) (m' : Master) : (s.takeOffer m o).stream m' = s.stream m' := rfl
@[simp] theorem takeOffer_binding (s : State) (m : Master) (o : Offer) (m' : Master) : (s.takeOffer m o).binding m' = s.binding m' := rfl
@[simp] theorem takeOffer_tag (s : State) (m : Master) (o : Offer) (t' : TagNo) : (s.takeOffer m o).tag t' = s.tag t' := rfl

/-! ### endPeriod -/

@[simp] theorem endPeriod_windows (s : State) (n k : Nat) : (s.endPeriod n k).windows = s.windows := rfl
@[simp] theorem endPeriod_staging (s : State) (n k : Nat) : (s.endPeriod n k).staging = s.staging := rfl
@[simp] theorem endPeriod_bindings (s : State) (n k : Nat) : (s.endPeriod n k).bindings = s.bindings := rfl
@[simp] theorem endPeriod_streams (s : State) (n k : Nat) : (s.endPeriod n k).streams = s.streams := rfl
@[simp] theorem endPeriod_waitList (s : State) (n k : Nat) : (s.endPeriod n k).waitList = s.waitList := rfl
@[simp] theorem endPeriod_engine (s : State) (n k : Nat) : (s.endPeriod n k).engine = s.engine := rfl
@[simp] theorem endPeriod_channels (s : State) (n k : Nat) : (s.endPeriod n k).channels = s.channels := rfl
@[simp] theorem endPeriod_records (s : State) (n k : Nat) : (s.endPeriod n k).records = s.records := rfl
@[simp] theorem endPeriod_pwq (s : State) (n k : Nat) : (s.endPeriod n k).pwq = s.pwq := rfl
@[simp] theorem endPeriod_nextEntry (s : State) (n k : Nat) : (s.endPeriod n k).nextEntry = s.nextEntry := rfl
@[simp] theorem endPeriod_port (s : State) (n k : Nat) : (s.endPeriod n k).port = s.port := rfl
@[simp] theorem endPeriod_drain (s : State) (n k : Nat) : (s.endPeriod n k).drain = s.drain := rfl
@[simp] theorem endPeriod_log (s : State) (n k : Nat) : (s.endPeriod n k).log = s.log := rfl
@[simp] theorem endPeriod_link (s : State) (n k : Nat) :
    (s.endPeriod n k).link = { s.link with period := .none } := rfl
@[simp] theorem endPeriod_porst (s : State) (n k : Nat) : (s.endPeriod n k).porst = s.porst := rfl
@[simp] theorem endPeriod_out (s : State) (n k : Nat) :
    (s.endPeriod n k).out = { s.out with mdo := some (mdoOver s.link.shown n k) } := rfl
@[simp] theorem endPeriod_pending (s : State) (n k : Nat) : (s.endPeriod n k).pending = s.pending := rfl
@[simp] theorem endPeriod_slot (s : State) (n k : Nat) (c' : Ctx) (w' : WinIx) : (s.endPeriod n k).slot c' w' = s.slot c' w' := rfl
@[simp] theorem endPeriod_version (s : State) (n k : Nat) (c' : Ctx) : (s.endPeriod n k).version c' = s.version c' := rfl
@[simp] theorem endPeriod_channel (s : State) (n k : Nat) (m' : Master) : (s.endPeriod n k).channel m' = s.channel m' := rfl
@[simp] theorem endPeriod_record (s : State) (n k : Nat) (m' : Master) : (s.endPeriod n k).record m' = s.record m' := rfl
@[simp] theorem endPeriod_stream (s : State) (n k : Nat) (m' : Master) : (s.endPeriod n k).stream m' = s.stream m' := rfl
@[simp] theorem endPeriod_binding (s : State) (n k : Nat) (m' : Master) : (s.endPeriod n k).binding m' = s.binding m' := rfl
@[simp] theorem endPeriod_tag (s : State) (n k : Nat) (t' : TagNo) : (s.endPeriod n k).tag t' = s.tag t' := rfl

/-! ### setBuffer -/

@[simp] theorem setBuffer_windows (s : State) (r : Option Response) : (s.setBuffer r).windows = s.windows := rfl
@[simp] theorem setBuffer_staging (s : State) (r : Option Response) : (s.setBuffer r).staging = s.staging := rfl
@[simp] theorem setBuffer_bindings (s : State) (r : Option Response) : (s.setBuffer r).bindings = s.bindings := rfl
@[simp] theorem setBuffer_streams (s : State) (r : Option Response) : (s.setBuffer r).streams = s.streams := rfl
@[simp] theorem setBuffer_waitList (s : State) (r : Option Response) : (s.setBuffer r).waitList = s.waitList := rfl
@[simp] theorem setBuffer_engine (s : State) (r : Option Response) : (s.setBuffer r).engine = s.engine := rfl
@[simp] theorem setBuffer_channels (s : State) (r : Option Response) : (s.setBuffer r).channels = s.channels := rfl
@[simp] theorem setBuffer_records (s : State) (r : Option Response) : (s.setBuffer r).records = s.records := rfl
@[simp] theorem setBuffer_pwq (s : State) (r : Option Response) : (s.setBuffer r).pwq = s.pwq := rfl
@[simp] theorem setBuffer_nextEntry (s : State) (r : Option Response) : (s.setBuffer r).nextEntry = s.nextEntry := rfl
@[simp] theorem setBuffer_port (s : State) (r : Option Response) : (s.setBuffer r).port = s.port := rfl
@[simp] theorem setBuffer_drain (s : State) (r : Option Response) : (s.setBuffer r).drain = s.drain := rfl
@[simp] theorem setBuffer_log (s : State) (r : Option Response) : (s.setBuffer r).log = s.log := rfl
@[simp] theorem setBuffer_link (s : State) (r : Option Response) :
    (s.setBuffer r).link = { s.link with buffer := r } := rfl
@[simp] theorem setBuffer_porst (s : State) (r : Option Response) : (s.setBuffer r).porst = s.porst := rfl
@[simp] theorem setBuffer_out (s : State) (r : Option Response) : (s.setBuffer r).out = s.out := rfl
@[simp] theorem setBuffer_pending (s : State) (r : Option Response) : (s.setBuffer r).pending = s.pending := rfl
@[simp] theorem setBuffer_slot (s : State) (r : Option Response) (c' : Ctx) (w' : WinIx) : (s.setBuffer r).slot c' w' = s.slot c' w' := rfl
@[simp] theorem setBuffer_version (s : State) (r : Option Response) (c' : Ctx) : (s.setBuffer r).version c' = s.version c' := rfl
@[simp] theorem setBuffer_channel (s : State) (r : Option Response) (m' : Master) : (s.setBuffer r).channel m' = s.channel m' := rfl
@[simp] theorem setBuffer_record (s : State) (r : Option Response) (m' : Master) : (s.setBuffer r).record m' = s.record m' := rfl
@[simp] theorem setBuffer_stream (s : State) (r : Option Response) (m' : Master) : (s.setBuffer r).stream m' = s.stream m' := rfl
@[simp] theorem setBuffer_binding (s : State) (r : Option Response) (m' : Master) : (s.setBuffer r).binding m' = s.binding m' := rfl
@[simp] theorem setBuffer_tag (s : State) (r : Option Response) (t' : TagNo) : (s.setBuffer r).tag t' = s.tag t' := rfl

/-! ### startClear -/

@[simp] theorem startClear_windows (s : State) : (s.startClear).windows = s.windows := rfl
@[simp] theorem startClear_staging (s : State) : (s.startClear).staging = s.staging := rfl
@[simp] theorem startClear_bindings (s : State) : (s.startClear).bindings = s.bindings := rfl
@[simp] theorem startClear_streams (s : State) : (s.startClear).streams = s.streams := rfl
@[simp] theorem startClear_waitList (s : State) : (s.startClear).waitList = s.waitList := rfl
@[simp] theorem startClear_engine (s : State) : (s.startClear).engine = s.engine := rfl
@[simp] theorem startClear_channels (s : State) : (s.startClear).channels = s.channels := rfl
@[simp] theorem startClear_records (s : State) : (s.startClear).records = s.records := rfl
@[simp] theorem startClear_pwq (s : State) : (s.startClear).pwq = s.pwq := rfl
@[simp] theorem startClear_nextEntry (s : State) : (s.startClear).nextEntry = s.nextEntry := rfl
@[simp] theorem startClear_port (s : State) :
    (s.startClear).port = { s.port with back := .clearing s.port.deadline } := rfl
@[simp] theorem startClear_drain (s : State) : (s.startClear).drain = s.drain := rfl
@[simp] theorem startClear_log (s : State) : (s.startClear).log = s.log := rfl
@[simp] theorem startClear_link (s : State) : (s.startClear).link = s.link := rfl
@[simp] theorem startClear_porst (s : State) : (s.startClear).porst = s.porst := rfl
@[simp] theorem startClear_out (s : State) :
    (s.startClear).out = { s.out with command := some .clear } := rfl
@[simp] theorem startClear_pending (s : State) : (s.startClear).pending = s.pending := rfl
@[simp] theorem startClear_slot (s : State) (c' : Ctx) (w' : WinIx) : (s.startClear).slot c' w' = s.slot c' w' := rfl
@[simp] theorem startClear_version (s : State) (c' : Ctx) : (s.startClear).version c' = s.version c' := rfl
@[simp] theorem startClear_channel (s : State) (m' : Master) : (s.startClear).channel m' = s.channel m' := rfl
@[simp] theorem startClear_record (s : State) (m' : Master) : (s.startClear).record m' = s.record m' := rfl
@[simp] theorem startClear_stream (s : State) (m' : Master) : (s.startClear).stream m' = s.stream m' := rfl
@[simp] theorem startClear_binding (s : State) (m' : Master) : (s.startClear).binding m' = s.binding m' := rfl

/-! ### Reading back -/

theorem setChannel_channel (s : State) (m m' : Master) (c : Channel) :
    (s.setChannel m c).channel m' = if m = m' then c else s.channel m' := by
  simp [State.setChannel, State.channel, Vector.getElem_set, Fin.ext_iff]

theorem setRecord_record (s : State) (m m' : Master) (r : Option Request) :
    (s.setRecord m r).record m' = if m = m' then r else s.record m' := by
  simp [State.setRecord, State.record, Vector.getElem_set, Fin.ext_iff]

theorem setStream_stream (s : State) (m m' : Master) (r : Option StreamRec) :
    (s.setStream m r).stream m' = if m = m' then r else s.stream m' := by
  simp [State.setStream, State.stream, Vector.getElem_set, Fin.ext_iff]

theorem setBinding_binding (s : State) (m m' : Master) (c : Option Ctx) :
    (s.setBinding m c).binding m' = if m = m' then c else s.binding m' := by
  simp [State.setBinding, State.binding, Vector.getElem_set, Fin.ext_iff]

theorem setTag_tag (s : State) (t t' : TagNo) (g : Tag) :
    (s.setTag t g).tag t' = if t = t' then g else s.tag t' := by
  simp [State.setTag, State.tag, Vector.getElem_set, Fin.ext_iff]

theorem freeTag_tag (s : State) (t t' : TagNo) :
    (s.freeTag t).tag t' = if t = t' then { s.tag t with state := .free } else s.tag t' := by
  simp [State.freeTag, setTag_tag]

theorem startTag_tag (s : State) (t t' : TagNo) (word : WordAddr) (work : Work) (owner : Owner) :
    (s.startTag t word work owner).tag t' =
      if t = t' then
        { state := .live { word := word, work := work, owner := owner, count := s.port.deadline }, lastWord := word }
      else s.tag t' := by
  simp [State.startTag, setTag_tag]

@[simp] theorem setPointer_tag (s : State) (src : Source) (t : TagNo) : (s.setPointer src).tag t = s.tag t := rfl

@[simp] theorem startClear_tag (s : State) (t : TagNo) : s.startClear.tag t = s.tag t := rfl

theorem leaveEntry_record (s : State) (id : Nat) (m : Master) :
    (s.leaveEntry id).record m = (s.record m).map (Request.forget id) := by
  simp [State.leaveEntry, State.record]

theorem takeOffer_channel (s : State) (m m' : Master) (o : Offer) :
    (s.takeOffer m o).channel m' =
      if m = m' then { s.channel m with offer := some o, taken := true, serial := (s.channel m).serial + 1 }
      else s.channel m' := by
  simp [State.takeOffer, setChannel_channel]

/-- A drain's beginning leaves everything but the tracker alone; the tracker is DRAINING, or complete at once (R140). -/
theorem beginDrain_drain (s : State) (job : DrainJob) (ms : List Member) :
    (s.beginDrain job ms).drain =
      if ms = [] then { state := .idle, last := some job.target }
      else { s.drain with state := .draining job ms } := by
  cases ms <;> rfl

end Sys2Proof.Machine
end

