-- ==== Sys2Proof/Laws/Drain.lean ====
section
/-! SUPPORT. The drain set and the Fault Log: what their operations do, once. -/

namespace Sys2Proof.Machine

/-! ## The drain set (R143 to R145) -/

/-- An IDLE tracker is left alone. -/
@[simp] theorem update_idle {d : Drain} (h : d.state = .idle) (f : DrainJob → Member → Option Member) :
    d.update f = d := by
  cases d; cases h; rfl

/-- A DRAINING tracker whose members all leave is IDLE, and names the drain COMPLETE (R145). -/
theorem update_complete {d : Drain} {job : DrainJob} {ms : List Member} {f : DrainJob → Member → Option Member}
    (h : d.state = .draining job ms) (he : ms.filterMap (f job) = []) :
    d.update f = { state := .idle, last := some job.target } := by
  cases d; cases h; simp [Drain.update, he]

/-- A DRAINING tracker with members left goes on draining, its last result as it was (R145). -/
theorem update_continue {d : Drain} {job : DrainJob} {ms : List Member} {f : DrainJob → Member → Option Member}
    (h : d.state = .draining job ms) (he : ms.filterMap (f job) ≠ []) :
    d.update f = { d with state := .draining job (ms.filterMap (f job)) } := by
  cases d; cases h
  cases hm : ms.filterMap (f job) with
  | nil => exact absurd hm he
  | cons x rest => simp [Drain.update, hm]

/-- A drain still running runs for the same job, and each of its members came from a member (R143). -/
theorem update_draining {d : Drain} {f : DrainJob → Member → Option Member} {job : DrainJob} {ms : List Member}
    (h : (d.update f).state = .draining job ms) :
    ∃ ms₀, d.state = .draining job ms₀ ∧ ms = ms₀.filterMap (f job) ∧ ms ≠ [] := by
  cases hd : d.state with
  | idle => rw [update_idle hd] at h; simp [hd] at h
  | draining job₀ ms₀ =>
    by_cases he : ms₀.filterMap (f job₀) = []
    · rw [update_complete hd he] at h; simp at h
    · rw [update_continue hd he] at h
      simp only [DrainState.draining.injEq] at h
      obtain ⟨rfl, rfl⟩ := h
      exact ⟨ms₀, rfl, rfl, he⟩

/-- The count of members never rises (R143). -/
theorem update_length_le {d : Drain} {f : DrainJob → Member → Option Member} {job : DrainJob} {ms ms' : List Member}
    (h : d.state = .draining job ms) (h' : (d.update f).state = .draining job ms') : ms'.length ≤ ms.length := by
  obtain ⟨ms₀, h₀, rfl, -⟩ := update_draining h'
  rw [h] at h₀
  simp only [DrainState.draining.injEq, true_and] at h₀
  subst h₀
  exact List.length_filterMap_le _ _

/-! ## The Fault Log (R159, R162) -/

/-- Every record takes a number, stored or not (R159). -/
@[simp] theorem logHandIn_next (l : FaultLog) (b : FaultBody) : (l.handIn b).next = l.next + 1 := rfl

/-- A record with room and span is stored at the tail (R162). -/
theorem logHandIn_records_of_accepts {l : FaultLog} (h : l.accepts = true) (b : FaultBody) :
    (l.handIn b).records = l.records ++ [{ seq := l.next, body := b }] := by
  simp [FaultLog.handIn, h]

/-- Any other record is discarded (R162). -/
theorem logHandIn_records_of_not {l : FaultLog} (h : l.accepts = false) (b : FaultBody) :
    (l.handIn b).records = l.records := by
  simp [FaultLog.handIn, h]

/-- A full log takes no record (R162). -/
theorem accepts_length {l : FaultLog} (h : l.accepts = true) : l.records.length < Config.logCapacity := by
  simp only [FaultLog.accepts, Bool.and_eq_true, decide_eq_true_eq] at h
  exact h.1

/-- An empty log takes any record (R162). -/
theorem accepts_empty {l : FaultLog} (h : l.records = []) : l.accepts = true := by
  simp [FaultLog.accepts, h, Config.logCapacity]

/-- The records of one event take consecutive numbers, in their order, and reach the log alone (R160). -/
theorem handInAll_eq (s : State) (bs : List FaultBody) :
    s.handInAll bs = { s with log := bs.foldl FaultLog.handIn s.log } := by
  induction bs generalizing s with
  | nil => rfl
  | cons b bs ih => exact ih (s.handIn b)

/-- A part's resolution reaches the log alone. -/
theorem handInOption_eq (s : State) (b : Option FaultBody) :
    s.handInOption b = { s with log := b.toList.foldl FaultLog.handIn s.log } := by
  cases b <;> rfl

end Sys2Proof.Machine
end

