-- ==== Sys2Proof/Laws/Tags.lean ====
section
/-! SUPPORT. What the questions over the tags and the PWQ answer, each as a plain statement. -/

namespace Sys2Proof.Machine

theorem mem_tagNos (t : TagNo) : t ∈ tagNos := by revert t; decide

theorem mem_masters (m : Master) : m ∈ masters := by revert m; decide

theorem mem_winIxs (w : WinIx) : w ∈ winIxs := by revert w; decide

/-- No tag holds the word exactly when every tag holds something else or nothing (R117). -/
theorem wordHeld_eq_false (s : State) (w : WordAddr) :
    s.wordHeld w = false ↔ ∀ t : TagNo, (s.tag t).state.holds ≠ some w := by
  simp only [State.wordHeld, List.any_eq_false, beq_iff_eq]
  exact ⟨fun h t => h t (mem_tagNos t), fun h t _ => h t⟩

/-- No QUARANTINED tag holds the word (R74). -/
theorem quarantinedBy_eq_none (s : State) (w : WordAddr) :
    s.quarantinedBy w = none ↔ ∀ t : TagNo, (s.tag t).state ≠ .quarantined w := by
  simp only [State.quarantinedBy, List.find?_eq_none, beq_iff_eq]
  exact ⟨fun h t => h t (mem_tagNos t), fun h t _ => h t⟩

/-- The tag that a question for the quarantine names is QUARANTINED on the word (R74, R101). -/
theorem quarantinedBy_eq_some {s : State} {w : WordAddr} {t : TagNo} (h : s.quarantinedBy w = some t) :
    (s.tag t).state = .quarantined w := by
  have := List.find?_some h
  simpa using this

/-- A word under quarantine is held (R117). -/
theorem wordHeld_of_quarantinedBy {s : State} {w : WordAddr} {t : TagNo} (h : s.quarantinedBy w = some t) :
    s.wordHeld w = true := by
  have hq := quarantinedBy_eq_some h
  simp only [State.wordHeld, List.any_eq_true, beq_iff_eq]
  exact ⟨t, mem_tagNos t, by simp [hq, TagState.holds]⟩

/-- No tag is LIVE (R129). -/
theorem anyLive_eq_false (s : State) : s.anyLive = false ↔ ∀ t : TagNo, (s.tag t).state.isLive = false := by
  simp only [State.anyLive, List.any_eq_false, Bool.not_eq_true]
  exact ⟨fun h t => h t (mem_tagNos t), fun h t _ => h t⟩

/-- The oldest QUEUED entry is a QUEUED entry of the queue (R99). -/
theorem oldestQueued_mem {s : State} {e : Entry} (h : s.oldestQueued = some e) : e ∈ s.pwq ∧ e.state = .queued := by
  refine ⟨List.mem_of_find?_eq_some h, ?_⟩
  have := List.find?_some h
  simpa using this

/-- The entry found on a tag is an entry of the queue ISSUED on it. -/
theorem entryOnTag_mem {s : State} {t : TagNo} {e : Entry} (h : s.entryOnTag t = some e) :
    e ∈ s.pwq ∧ e.state = .issued t := by
  refine ⟨List.mem_of_find?_eq_some h, ?_⟩
  have := List.find?_some h
  simpa using this

/-- The operation found on a tag is an operation of the request ISSUED on it. -/
theorem opOnTag_mem {r : Request} {t : TagNo} {o : WordOp} (h : r.opOnTag t = some o) :
    o ∈ r.ops ∧ o.state = .issued t := by
  refine ⟨List.mem_of_find?_eq_some h, ?_⟩
  have := List.find?_some h
  simpa using this

/-- The PWQ offers its oldest QUEUED entry, its word held by no tag, the back port NORMAL (R99). -/
theorem offeredEntry_eq_some {s : State} {e : Entry} (h : s.offeredEntry = some e) :
    s.oldestQueued = some e ∧ s.wordHeld e.word = false ∧ s.port.back = .normal := by
  unfold State.offeredEntry at h
  split at h
  · simp at h
  · rename_i e' he'
    split at h
    · rename_i hc
      simp only [Option.some.injEq] at h
      subst h
      simp only [Bool.and_eq_true, Bool.not_eq_true', decide_eq_true_eq] at hc
      exact ⟨he', hc.1, hc.2⟩
    · simp at h

/-- The five conditions of readiness (R72). -/
theorem opReady_iff (s : State) (m : Master) (r : Request) (o : WordOp) :
    s.opReady m r o = true ↔
      o.state = .pending ∧ r.state ≠ .lookup ∧ (∀ e ∈ s.pwq, e.master ≠ m) ∧
      (∀ id ∈ o.snapshot, ∀ e ∈ s.pwq, e.id ≠ id) ∧ s.wordHeld o.word = false ∧ s.port.back = .normal := by
  simp [State.opReady, and_assoc]

/-- The first ready source after the pointer is ready (R119). -/
theorem nextSource_ready {s : State} {src : Source} (h : s.nextSource = some src) : s.sourceReady src = true :=
  List.find?_some h

end Sys2Proof.Machine
end

