-- ==== Sys2Proof/Laws/Frame.lean ====
section
/-! SUPPORT. What the shared operations leave alone. The course of a request, an entry or an answer never touches the
Window Table, the Staging Record, the bindings, the stream records, the Search Engine, the channels, the link, PORST#
or the queue of commands: `KeepsTables`. -/

namespace Sys2Proof.Machine

/-- t has the tables, lines and engine of s. -/
structure KeepsTables (s t : State) : Prop where
  windows : t.windows = s.windows
  staging : t.staging = s.staging
  bindings : t.bindings = s.bindings
  streams : t.streams = s.streams
  engine : t.engine = s.engine
  channels : t.channels = s.channels
  link : t.link = s.link
  porst : t.porst = s.porst
  pending : t.pending = s.pending

theorem KeepsTables.refl (s : State) : KeepsTables s s := ⟨rfl, rfl, rfl, rfl, rfl, rfl, rfl, rfl, rfl⟩

theorem KeepsTables.trans {s t u : State} (h : KeepsTables s t) (k : KeepsTables t u) : KeepsTables s u :=
  ⟨k.windows.trans h.windows, k.staging.trans h.staging, k.bindings.trans h.bindings, k.streams.trans h.streams,
    k.engine.trans h.engine, k.channels.trans h.channels, k.link.trans h.link, k.porst.trans h.porst,
    k.pending.trans h.pending⟩

/-- t also has the tags, the back-port state and the wait list of s. -/
structure KeepsPort (s t : State) : Prop extends KeepsTables s t where
  port : t.port = s.port
  waitList : t.waitList = s.waitList

theorem KeepsPort.refl (s : State) : KeepsPort s s := ⟨.refl s, rfl, rfl⟩

theorem KeepsPort.trans {s t u : State} (h : KeepsPort s t) (k : KeepsPort t u) : KeepsPort s u :=
  ⟨h.toKeepsTables.trans k.toKeepsTables, k.port.trans h.port, k.waitList.trans h.waitList⟩

/-! ## Single updates -/

theorem keepsTables_beginEvent (s : State) : KeepsTables s s.beginEvent := ⟨rfl, rfl, rfl, rfl, rfl, rfl, rfl, rfl, rfl⟩

theorem keepsPort_beginEvent (s : State) : KeepsPort s s.beginEvent := ⟨keepsTables_beginEvent s, rfl, rfl⟩

theorem keepsTables_setTag (s : State) (t : TagNo) (g : Tag) : KeepsTables s (s.setTag t g) :=
  ⟨rfl, rfl, rfl, rfl, rfl, rfl, rfl, rfl, rfl⟩

theorem keepsTables_freeTag (s : State) (t : TagNo) : KeepsTables s (s.freeTag t) := keepsTables_setTag _ _ _

theorem keepsTables_startTag (s : State) (t : TagNo) (word : WordAddr) (work : Work) (owner : Owner) :
    KeepsTables s (s.startTag t word work owner) := keepsTables_setTag _ _ _

theorem keepsPort_setRecord (s : State) (m : Master) (r : Option Request) : KeepsPort s (s.setRecord m r) :=
  ⟨⟨rfl, rfl, rfl, rfl, rfl, rfl, rfl, rfl, rfl⟩, rfl, rfl⟩

theorem keepsPort_sendReply (s : State) (m : Master) (r : Reply) : KeepsPort s (s.sendReply m r) :=
  ⟨⟨rfl, rfl, rfl, rfl, rfl, rfl, rfl, rfl, rfl⟩, rfl, rfl⟩

theorem keepsPort_sendCommand (s : State) (c : MemCommand) : KeepsPort s (s.sendCommand c) :=
  ⟨⟨rfl, rfl, rfl, rfl, rfl, rfl, rfl, rfl, rfl⟩, rfl, rfl⟩

theorem keepsPort_handIn (s : State) (b : FaultBody) : KeepsPort s (s.handIn b) :=
  ⟨⟨rfl, rfl, rfl, rfl, rfl, rfl, rfl, rfl, rfl⟩, rfl, rfl⟩

theorem keepsPort_handInAll (s : State) (bs : List FaultBody) : KeepsPort s (s.handInAll bs) := by
  rw [handInAll_eq]; exact ⟨⟨rfl, rfl, rfl, rfl, rfl, rfl, rfl, rfl, rfl⟩, rfl, rfl⟩

theorem keepsPort_handInOption (s : State) (b : Option FaultBody) : KeepsPort s (s.handInOption b) := by
  rw [handInOption_eq]; exact ⟨⟨rfl, rfl, rfl, rfl, rfl, rfl, rfl, rfl, rfl⟩, rfl, rfl⟩

theorem keepsPort_drainUpdate (s : State) (f : DrainJob → Member → Option Member) : KeepsPort s (s.drainUpdate f) :=
  ⟨⟨rfl, rfl, rfl, rfl, rfl, rfl, rfl, rfl, rfl⟩, rfl, rfl⟩

theorem keepsPort_leaveEntry (s : State) (id : Nat) : KeepsPort s (s.leaveEntry id) :=
  ⟨⟨rfl, rfl, rfl, rfl, rfl, rfl, rfl, rfl, rfl⟩, rfl, rfl⟩

/-! ## Failures at the head, and replies -/

theorem keepsPort_failEntry (s : State) (e : Entry) (c : Cause) (t : TagNo) : KeepsPort s (s.failEntry e c t) :=
  (keepsPort_handIn _ _).trans (keepsPort_leaveEntry _ _)

theorem keepsPort_settleHeadUpTo (n : Nat) (s : State) : KeepsPort s (settleHeadUpTo n s) := by
  induction n generalizing s with
  | zero => exact .refl s
  | succ n ih =>
    unfold settleHeadUpTo
    split
    · exact .refl s
    · split
      · exact .refl s
      · exact (keepsPort_failEntry _ _ _ _).trans (ih _)

theorem keepsPort_settleHead (s : State) : KeepsPort s s.settleHead := keepsPort_settleHeadUpTo _ _

/-- A head that is absent, or whose word is free of quarantine, leaves the state as it is (R101). -/
theorem settleHead_of_free {s : State} (h : ∀ e ∈ s.oldestQueued, s.quarantinedBy e.word = none) :
    s.settleHead = s := by
  unfold State.settleHead
  cases s.pwq.length with
  | zero => rfl
  | succ n =>
    unfold settleHeadUpTo
    cases ho : s.oldestQueued with
    | none => rfl
    | some e => simp [h e (by simp [ho])]

theorem keepsPort_replyRequest (s : State) (m : Master) (r : Reply) : KeepsPort s (s.replyRequest m r) :=
  ((keepsPort_sendReply _ _ _).trans (keepsPort_setRecord _ _ _)).trans (keepsPort_drainUpdate _ _)

theorem keepsPort_finishRequest (s : State) (m : Master) : KeepsPort s (s.finishRequest m) := by
  unfold State.finishRequest
  split
  · exact .refl s
  · split
    · exact keepsPort_replyRequest _ _ _
    · exact .refl s

/-- A record with work left does not reply (R54, R55). -/
theorem finishRequest_of_unfinished {s : State} {m : Master} (h : ∀ r ∈ s.record m, r.finished = false) :
    s.finishRequest m = s := by
  unfold State.finishRequest
  cases hr : s.record m with
  | none => rfl
  | some r => simp [h r (by simp [hr])]

/-- A record whose operations are all DONE replies (R54, R55). -/
theorem finishRequest_of_finished {s : State} {m : Master} {r : Request} (h : s.record m = some r)
    (hf : r.finished = true) : s.finishRequest m = s.replyRequest m (composeReply r) := by
  simp [State.finishRequest, h, hf]

theorem keepsPort_judgeReadiness (s : State) (m : Master) : KeepsPort s (s.judgeReadiness m) := by
  unfold State.judgeReadiness
  split
  · exact .refl s
  · exact ((keepsPort_handInAll _ _).trans (keepsPort_setRecord _ _ _)).trans (keepsPort_finishRequest _ _)

theorem keepsPort_holdRequest (s : State) (m : Master) (r : Request) : KeepsPort s (s.holdRequest m r) :=
  (keepsPort_setRecord _ _ _).trans (keepsPort_judgeReadiness _ _)

theorem keepsPort_postRequest (s : State) (m : Master) (r : Request) : KeepsPort s (s.postRequest m r) := by
  unfold State.postRequest
  refine KeepsPort.trans ?_ (keepsPort_settleHead _)
  exact ⟨⟨rfl, rfl, rfl, rfl, rfl, rfl, rfl, rfl, rfl⟩, rfl, rfl⟩

theorem keepsPort_completeTranslation (s : State) (m : Master) (r : Request) :
    KeepsPort s (s.completeTranslation m r) := by
  unfold State.completeTranslation
  split
  · exact .refl s
  · split
    · split
      · exact keepsPort_holdRequest _ _ _
      · split
        · exact keepsPort_postRequest _ _ _
        · exact keepsPort_holdRequest _ _ _
    · exact keepsPort_replyRequest _ _ _

/-! ## Translation -/

theorem keepsPort_resolveSecond (s : State) (m : Master) (found : Option WinCopy) :
    KeepsPort s (s.resolveSecond m found) := by
  unfold State.resolveSecond
  split
  · exact .refl s
  · exact ((keepsPort_handInOption _ _).trans (keepsPort_setRecord _ _ _)).trans (keepsPort_completeTranslation _ _ _)

theorem keepsTables_beginSecond (s : State) (m : Master) : KeepsTables s (s.beginSecond m) := by
  unfold State.beginSecond
  split
  · exact .refl s
  · dsimp only
    split
    · exact (keepsPort_resolveSecond _ _ _).toKeepsTables
    · split
      · exact (keepsPort_resolveSecond _ _ _).toKeepsTables
      · exact ⟨rfl, rfl, rfl, rfl, rfl, rfl, rfl, rfl, rfl⟩

theorem beginSecond_port (s : State) (m : Master) : (s.beginSecond m).port = s.port := by
  unfold State.beginSecond
  split
  · rfl
  · dsimp only
    split
    · exact (keepsPort_resolveSecond _ _ _).port
    · split
      · exact (keepsPort_resolveSecond _ _ _).port
      · rfl

theorem keepsTables_resolveFirst (s : State) (m : Master) (found : Option WinCopy) :
    KeepsTables s (s.resolveFirst m found) := by
  unfold State.resolveFirst
  split
  · exact .refl s
  · have h := fun b q => ((keepsPort_handInOption s b).trans (keepsPort_setRecord (s.handInOption b) m q)).toKeepsTables
    dsimp only
    split
    · exact (h _ _).trans (keepsPort_completeTranslation _ _ _).toKeepsTables
    · exact (h _ _).trans (keepsTables_beginSecond _ _)
    · exact (h _ _).trans (keepsTables_beginSecond _ _)

theorem resolveFirst_port (s : State) (m : Master) (found : Option WinCopy) :
    (s.resolveFirst m found).port = s.port := by
  unfold State.resolveFirst
  split
  · rfl
  · have h := fun b q => ((keepsPort_handInOption s b).trans (keepsPort_setRecord (s.handInOption b) m q)).port
    dsimp only
    split
    · exact (keepsPort_completeTranslation _ _ _).port.trans (h _ _)
    · exact (beginSecond_port _ _).trans (h _ _)
    · exact (beginSecond_port _ _).trans (h _ _)

/-! ## The Back Port's events -/

theorem keepsTables_grant (s : State) (t : TagNo) (choice : OpChoice) : KeepsTables s (s.grant t choice) := by
  unfold State.grant
  split
  · exact .refl s
  · split
    · exact .refl s
    · refine KeepsTables.trans ?_ (keepsPort_settleHead _).toKeepsTables
      exact ⟨rfl, rfl, rfl, rfl, rfl, rfl, rfl, rfl, rfl⟩
  · split
    · exact .refl s
    · split
      · exact .refl s
      · split
        · exact .refl s
        · exact ⟨rfl, rfl, rfl, rfl, rfl, rfl, rfl, rfl, rfl⟩

theorem keepsTables_answerOp (s : State) (t : TagNo) (m : Master) (r : Request) (o : WordOp) (owner : Owner)
    (effect : AnswerEffect) (data : Bytes8) : KeepsTables s (s.answerOp t m r o owner effect data) := by
  unfold State.answerOp
  split
  · exact ((keepsTables_freeTag s t).trans (keepsPort_setRecord _ _ _).toKeepsTables).trans
      (keepsPort_finishRequest _ _).toKeepsTables
  · exact ((keepsTables_freeTag s t).trans (keepsPort_setRecord _ _ _).toKeepsTables).trans
      (keepsPort_finishRequest _ _).toKeepsTables
  · exact ⟨rfl, rfl, rfl, rfl, rfl, rfl, rfl, rfl, rfl⟩
  · exact (((keepsTables_freeTag s t).trans (keepsPort_handIn _ _).toKeepsTables).trans
      (keepsPort_setRecord _ _ _).toKeepsTables).trans (keepsPort_finishRequest _ _).toKeepsTables

theorem keepsTables_answerEntry (s : State) (t : TagNo) (e : Entry) (effect : AnswerEffect) (data : Bytes8) :
    KeepsTables s (s.answerEntry t e effect data) := by
  unfold State.answerEntry
  split
  · exact (keepsTables_freeTag s t).trans (keepsPort_leaveEntry _ _).toKeepsTables
  · exact (keepsTables_freeTag s t).trans (keepsPort_leaveEntry _ _).toKeepsTables
  · exact ⟨rfl, rfl, rfl, rfl, rfl, rfl, rfl, rfl, rfl⟩
  · exact (keepsTables_freeTag s t).trans (keepsPort_failEntry _ _ _ _).toKeepsTables

theorem keepsTables_answerTag (s : State) (t : TagNo) (status : AnswerStatus) (data : Bytes8) (check : Byte) :
    KeepsTables s (s.answerTag t status data check) := by
  unfold State.answerTag
  split
  · exact (keepsPort_handIn _ _).toKeepsTables
  · exact keepsTables_freeTag _ _
  · unfold State.answerLive
    split
    · exact (keepsTables_freeTag s t).trans (keepsPort_drainUpdate _ _).toKeepsTables
    · split
      · exact keepsTables_freeTag _ _
      · exact keepsTables_answerEntry _ _ _ _ _
    · split
      · exact keepsTables_freeTag _ _
      · split
        · exact keepsTables_freeTag _ _
        · exact keepsTables_answerOp _ _ _ _ _ _ _ _

theorem keepsPort_expireWork (s : State) (t : TagNo) (l : LiveWork) : KeepsPort s (s.expireWork t l) := by
  unfold State.expireWork
  split
  · exact keepsPort_drainUpdate _ _
  · split
    · exact .refl s
    · exact keepsPort_failEntry _ _ _ _
  · split
    · exact .refl s
    · split
      · exact .refl s
      · exact ((keepsPort_handIn _ _).trans (keepsPort_setRecord _ _ _)).trans (keepsPort_finishRequest _ _)

theorem keepsPort_judgeAll (ms : List Master) (s : State) : KeepsPort s (ms.foldl State.judgeReadiness s) := by
  induction ms generalizing s with
  | nil => exact .refl s
  | cons m ms ih => exact (keepsPort_judgeReadiness s m).trans (ih _)

/-- An expiry changes the port by the quarantine of its tag alone (R124). -/
theorem expireTag_keeps (s : State) (t : TagNo) (l : LiveWork) :
    KeepsPort (s.setTag t { s.tag t with state := .quarantined l.word }) (s.expireTag t l) :=
  ((keepsPort_expireWork _ _ _).trans (keepsPort_judgeAll _ _)).trans (keepsPort_settleHead _)

/-! ## Maintenance -/

/-- A period that the link does not judge ends and does nothing else (R171). -/
theorem frameEvent_of_not {s : State} (h : s.takesPeriod = false) (n k : Nat) (f : State → State) :
    s.frameEvent n k f = s.beginEvent.endPeriod n k := by
  simp [State.frameEvent, h]

/-- A period that the link judges takes its effect (R167). -/
theorem frameEvent_of_takes {s : State} (h : s.takesPeriod = true) (n k : Nat) (f : State → State) :
    s.frameEvent n k f = f (s.beginEvent.endPeriod n k) := by
  simp [State.frameEvent, h]

/-- A command frame judged by the link leaves exactly one response (R169). -/
theorem commandFrame_of_takes {s : State} (h : s.takesPeriod = true) (f : Frame)
    (cmd : Option (State → State × Response)) :
    s.commandFrame f cmd = (s.beginEvent.endPeriod (f.args.length + 1) f.tail).takeCommand cmd := by
  simp [State.commandFrame, State.frameEvent, h]

/-- The slots after a commit event: the committed one replaced, every other as it was (R19). -/
theorem windowTable_commit_slot (t : WindowTable) (c c' : Ctx) (w w' : WinIx) (i : Image) :
    ((t.commit c w i).slots[c'])[w'] =
      if c = c' ∧ w = w' then { image := i, gen := (t.slots[c])[w].gen + 1 } else (t.slots[c'])[w'] := by
  by_cases hc : c = c'
  · subst hc
    by_cases hw : w = w'
    · subst hw; simp [WindowTable.commit]
    · have hne : w.val ≠ w'.val := fun h => hw (Fin.ext h)
      simp [WindowTable.commit, hw, hne]
  · have hne : c.val ≠ c'.val := fun h => hc (Fin.ext h)
    simp [WindowTable.commit, hc, hne]

end Sys2Proof.Machine
end

