-- ==== Sys2Proof/Laws/Exec.lean ====
section
/-! SUPPORT. What each command calls, and the facts about acceptance, searches, answers and frames that proofs about
commands share. -/

namespace Sys2Proof.Machine

theorem exec_requestAcceptance (m : Master) (o : Offer) (s : State) : exec (.requestAcceptance m o) s = execRequestAcceptance m o s := rfl
theorem exec_offerRemoval (m : Master) (s : State) : exec (.offerRemoval m) s = execOfferRemoval m s := rfl
theorem exec_searchBegin (s : State) : exec .searchBegin s = execSearchBegin s := rfl
theorem exec_searchCompletion (s : State) : exec .searchCompletion s = execSearchCompletion s := rfl
theorem exec_repeatedSearchCompletion (s : State) : exec .repeatedSearchCompletion s = execRepeatedSearchCompletion s := rfl
theorem exec_tagGrant (t : TagNo) (choice : OpChoice) (s : State) : exec (.tagGrant t choice) s = execTagGrant t choice s := rfl
theorem exec_answer (tag : BitVec 3) (status : AnswerStatus) (data : Bytes8) (check : Byte) (s : State) : exec (.answer tag status data check) s = execAnswer tag status data check s := rfl
theorem exec_deadlineExpiry (t : TagNo) (s : State) : exec (.deadlineExpiry t) s = execDeadlineExpiry t s := rfl
theorem exec_cleared (s : State) : exec .cleared s = execCleared s := rfl
theorem exec_clearDeadlineExpiry (s : State) : exec .clearDeadlineExpiry s = execClearDeadlineExpiry s := rfl
theorem exec_channelResetAssertion (m : Master) (s : State) : exec (.channelResetAssertion m) s = execChannelResetAssertion m s := rfl
theorem exec_channelResetRelease (m : Master) (s : State) : exec (.channelResetRelease m) s = execChannelResetRelease m s := rfl
theorem exec_powerOnReset (s : State) : exec .powerOnReset s = execPowerOnReset s := rfl
theorem exec_powerOnResetRelease (s : State) : exec .powerOnResetRelease s = execPowerOnResetRelease s := rfl
theorem exec_shortPeriod (edges : Nat) (s : State) : exec (.shortPeriod edges) s = execShortPeriod edges s := rfl
theorem exec_readPeriod (bytes : Nat) (tail : Nat) (s : State) : exec (.readPeriod bytes tail) s = execReadPeriod bytes tail s := rfl
theorem exec_badcmd (code : Byte) (f : Frame) (s : State) : exec (.badcmd code f) s = execBadcmd code f s := rfl
theorem exec_status (f : Frame) (s : State) : exec (.status f) s = execStatus f s := rfl
theorem exec_stage (f : Frame) (s : State) : exec (.stage f) s = execStage f s := rfl
theorem exec_commit (f : Frame) (s : State) : exec (.commit f) s = execCommit f s := rfl
theorem exec_readWindow (f : Frame) (s : State) : exec (.readWindow f) s = execReadWindow f s := rfl
theorem exec_bind (f : Frame) (s : State) : exec (.bind f) s = execBind f s := rfl
theorem exec_readBinding (f : Frame) (s : State) : exec (.readBinding f) s = execReadBinding f s := rfl
theorem exec_readStream (f : Frame) (s : State) : exec (.readStream f) s = execReadStream f s := rfl
theorem exec_popFault (f : Frame) (s : State) : exec (.popFault f) s = execPopFault f s := rfl
theorem exec_setDeadline (f : Frame) (s : State) : exec (.setDeadline f) s = execSetDeadline f s := rfl
theorem exec_backClear (f : Frame) (s : State) : exec (.backClear f) s = execBackClear f s := rfl
theorem exec_mselAssertion (s : State) : exec .mselAssertion s = execMselAssertion s := rfl

/-! ### Acceptance -/

theorem channelOpen_iff (s : State) (m : Master) : s.channelOpen m = true ↔ s.mayAccept m := by
  simp [State.channelOpen, State.mayAccept, and_assoc]

/-- An offer that may be taken is accepted (R47, R49). -/
theorem exec_accept {s : State} {m : Master} (h : s.mayAccept m) (o : Offer) :
    exec (.requestAcceptance m o) s = .next (s.beginEvent.acceptOffer m o) := by
  show (if s.channelOpen m = true then _ else _) = _
  rw [if_pos ((channelOpen_iff s m).2 h)]

/-- An offer that may not be taken waits (R47). -/
theorem exec_wait {s : State} {m : Master} (h : ¬ s.mayAccept m) (o : Offer) :
    exec (.requestAcceptance m o) s = .next (s.beginEvent.offerWaits m o) := by
  show (if s.channelOpen m = true then _ else _) = _
  rw [if_neg (fun hc => h ((channelOpen_iff s m).1 hc))]

theorem runCovers_iff (w : WinCopy) (g : Nat) : runCovers w.start w.lenM1 g = true ↔ w.contains g := by
  rw [runCovers, Bool.and_eq_true, decide_eq_true_iff, decide_eq_true_iff]
  rfl

/-- A stream record that misses gives no window (R30). -/
theorem streamHit_eq_none {s : State} {m : Master} {c : Ctx} {g : Nat} (h : s.missesStream m c g) :
    s.streamHit m c g = none := by
  unfold State.streamHit
  cases hs : s.stream m with
  | none => rfl
  | some r =>
    have hr := h r (by simp [hs])
    exact if_neg (fun hc => hr ⟨hc.1, (runCovers_iff r.win g).1 hc.2⟩)

/-- A present stream record of the context whose run contains the granule hits (R30). -/
theorem streamHit_eq_some {s : State} {m : Master} {r : StreamRec} {g : Nat} (h : s.stream m = some r)
    (hg : r.win.contains g) : s.streamHit m r.ctx g = some r.win := by
  unfold State.streamHit
  rw [h]
  exact if_pos ⟨rfl, (runCovers_iff r.win g).2 hg⟩

/-- The stream compare reads the stream records alone. -/
theorem streamHit_congr {s t : State} (h : t.streams = s.streams) (m : Master) (c : Ctx) (g : Nat) :
    t.streamHit m c g = s.streamHit m c g := by
  unfold State.streamHit State.stream
  rw [h]

/-- The quarantine is read from the tags alone. -/
theorem quarantinedBy_congr {s t : State} (h : t.port = s.port) (w : WordAddr) :
    t.quarantinedBy w = s.quarantinedBy w := by
  unfold State.quarantinedBy State.tag
  rw [h]

/-- The head of the queue is read from the queue alone. -/
theorem oldestQueued_congr {s t : State} (h : t.pwq = s.pwq) : t.oldestQueued = s.oldestQueued := by
  unfold State.oldestQueued
  rw [h]

/-! ### Channel reset -/

/-- An IDLE record has nothing to abandon (R62). -/
theorem abandonRequest_of_none {s : State} {m : Master} (h : s.record m = none) : s.abandonRequest m = s := by
  unfold State.abandonRequest
  rw [h]

/-- A request abandoned: its tags are orphans', its record IDLE, the drain set told (R62, R63, R143). -/
theorem abandonRequest_of_some {s : State} {m : Master} {r : Request} (h : s.record m = some r) :
    s.abandonRequest m =
      { s with
        port := { s.port with tags := Vector.ofFn fun t : TagNo => orphanTag m r t (s.tag t) }
        records := s.records.set m none
        drain := s.drain.update fun job => Member.afterAbandonment m (qualifyingOrphans m r job) } := by
  unfold State.abandonRequest
  rw [h]
  rfl

/-! ### Answers -/

/-- While PORST# is released, an answer that names tag t of the pool is interpreted by the tag's state (R114). -/
theorem exec_answer_tag {s : State} {tag : BitVec 3} {t : TagNo} (hp : s.porst = false) (ht : tag.toNat = t.val)
    (status : AnswerStatus) (data : Bytes8) (check : Byte) :
    exec (.answer tag status data check) s = .next (s.beginEvent.answerTag t status data check) := by
  show (if s.porst then _ else if h : tag.toNat < 6 then _ else _) = _
  have hlt : tag.toNat < 6 := by have := t.isLt; omega
  rw [if_neg (by simp [hp]), dif_pos hlt]
  have he : (⟨tag.toNat, hlt⟩ : TagNo) = t := Fin.ext ht
  rw [he]

/-- An answer on a LIVE tag of a request's operation (R125). -/
theorem answerTag_of_request {s : State} {t : TagNo} {l : LiveWork} {m : Master} {label : Label} {r : Request}
    {o : WordOp} (hl : (s.tag t).state = .live l) (ho : l.owner = .request m label) (hr : s.record m = some r)
    (hop : r.opOnTag t = some o) (status : AnswerStatus) (data : Bytes8) (check : Byte) :
    s.answerTag t status data check =
      s.answerOp t m r o (.request m label) (answerEffect l.work status data check) data := by
  unfold State.answerTag State.answerLive
  simp only [hl, ho, hr, hop]

/-- An answer on a LIVE tag of a PWQ entry (R125). -/
theorem answerTag_of_entry {s : State} {t : TagNo} {l : LiveWork} {e : Entry}
    (hl : (s.tag t).state = .live l) (ho : l.owner = .pwqEntry) (he : s.entryOnTag t = some e)
    (status : AnswerStatus) (data : Bytes8) (check : Byte) :
    s.answerTag t status data check = s.answerEntry t e (answerEffect l.work status data check) data := by
  unfold State.answerTag State.answerLive
  simp only [hl, ho, he]

/-! ### Frames -/

theorem takesPeriod_iff (s : State) : s.takesPeriod = true ↔ s.judgesPeriod := by
  unfold State.takesPeriod State.judgesPeriod
  cases hp : s.link.period <;> simp

/-- A command of the right length, judged by the link: its effect on the state after the period, and its response
(R169, R170). -/
theorem exec_frame {s : State} (h : s.judgesPeriod) (f : Frame) (cmd : State → State × Response) :
    s.commandFrame f (some cmd) =
      (cmd (s.beginEvent.endPeriod (f.args.length + 1) f.tail)).1.setBuffer
        (some (cmd (s.beginEvent.endPeriod (f.args.length + 1) f.tail)).2) := by
  rw [commandFrame_of_takes ((takesPeriod_iff s).2 h)]
  rfl

/-- The state after a period that left the buffer as it was. -/
theorem endPeriod_eq (s : State) (n k : Nat) : s.beginEvent.endPeriod n k = s.afterPeriod n k s.link.buffer := rfl

/-! ### Argument bytes and checks of the maintenance commands -/

theorem masterOf_eq {m : Master} {b : Byte} (h : b.toNat = m.val) : masterOf b = some m := by
  unfold masterOf
  rw [dif_pos (by omega)]
  exact congrArg some (Fin.ext h)

theorem ctxOf_eq {c : Ctx} {b : Byte} (h : b.toNat = c.val) : ctxOf b = some c := by
  unfold ctxOf
  rw [dif_pos (by omega)]
  exact congrArg some (Fin.ext h)

theorem winIxOf_eq {w : WinIx} {b : Byte} (h : b.toNat = w.val) : winIxOf b = some w := by
  unfold winIxOf
  rw [dif_pos (by omega)]
  exact congrArg some (Fin.ext h)

theorem draining_iff (s : State) : s.draining = true ↔ s.drain.state ≠ .idle := by
  unfold State.draining
  cases s.drain.state <;> simp

theorem repeatingIn_iff (s : State) (c : Ctx) : s.repeatingIn c = true ↔ s.repeatsFor c := by
  unfold State.repeatingIn State.repeatsFor
  cases s.engine <;> simp

theorem outOfBounds_iff (i : Image) : i.outOfBounds = true ↔ i.runsPast := by
  rw [Image.outOfBounds, Bool.or_eq_true, decide_eq_true_iff, decide_eq_true_iff]
  rfl

theorem overlaps_iff (s : State) (c : Ctx) (w : WinIx) : s.overlaps c w = true ↔ s.stagedShares c w := by
  unfold State.overlaps State.stagedShares runsShare
  simp [List.any_eq_true, mem_winIxs, and_assoc]

theorem anyLive_iff (s : State) : s.anyLive = true ↔ ∃ (t : TagNo) (l : LiveWork), (s.tag t).state = .live l := by
  unfold State.anyLive
  rw [List.any_eq_true]
  constructor
  · rintro ⟨t, _, ht⟩
    refine ⟨t, ?_⟩
    revert ht
    cases (s.tag t).state <;> simp [TagState.isLive]
  · rintro ⟨t, l, ht⟩
    exact ⟨t, mem_tagNos t, by simp [ht, TagState.isLive]⟩

/-! ### Grants -/

theorem beginEvent_nextSource (s : State) : s.beginEvent.nextSource = s.nextSource := rfl

theorem beginEvent_readyOps (s : State) (m : Master) (r : Request) : s.beginEvent.readyOps m r = s.readyOps m r := rfl

theorem beginEvent_offeredEntry (s : State) : s.beginEvent.offeredEntry = s.offeredEntry := rfl

/-- Every source stands in the cyclic order after any pointer (R118). -/
theorem mem_after (p src : Source) : src ∈ p.after := by
  cases p with
  | pwq =>
    cases src with
    | pwq => decide
    | master m => revert m; decide
  | master n =>
    cases src with
    | pwq => revert n; decide
    | master m => revert n m; decide

/-- The grant to an operation, field by field (R77, R119, R120). -/
theorem grantOp_eq (s : State) (t : TagNo) (m : Master) (r : Request) (i : Nat) (o : WordOp) :
    s.beginEvent.grantOp t m r i o = { s with
      port := { s.portLive t o.word o.work (.request m o.label) with pointer := .master m }
      records := s.records.set m (some { r with
        state := .active
        ops := r.ops.set i { o with state := .issued t, snapshot := [] } })
      out := sentCommand (grantCommand t o.word o.work o.data) } := by
  unfold State.grantOp State.startTag State.setRecord State.sendCommand State.setPointer State.setTag
  dsimp only
  rfl

/-- The grant to the PWQ, field by field (R99, R101, R120). -/
theorem grantEntry_eq (s : State) (t : TagNo) (e : Entry) :
    s.beginEvent.grantEntry t e = State.settleHead { s with
      port := { s.portLive t e.word e.work .pwqEntry with pointer := .pwq }
      pwq := s.pwq.map fun x => if x.id = e.id then { x with state := .issued t } else x
      out := sentCommand (grantCommand t e.word e.work e.data) } := by
  unfold State.grantEntry State.startTag State.sendCommand State.setPointer State.setTag
  dsimp only
  rfl

end Sys2Proof.Machine
end

