-- ==== Sys2Proof/Laws/PerInstr.lean ====
section
/-! SUPPORT. Statements made for every command, one lemma for each constructor. -/

namespace Sys2Proof.Laws

/-- The period that carries a well-formed command of the link has fewer than 8 bits after its last complete byte
(R167). -/
def PeriodTail.Statement (i : Instr) : Prop :=
  i.wellFormed = true → ∀ p ∈ encodePeriod i, p.tail < 8

theorem PeriodTail.requestAcceptance (a : Master) (b : Offer) : PeriodTail.Statement (.requestAcceptance a b) := fun _ _ h => nomatch h

theorem PeriodTail.offerRemoval (a : Master) : PeriodTail.Statement (.offerRemoval a) := fun _ _ h => nomatch h

theorem PeriodTail.searchBegin : PeriodTail.Statement .searchBegin := fun _ _ h => nomatch h

theorem PeriodTail.searchCompletion : PeriodTail.Statement .searchCompletion := fun _ _ h => nomatch h

theorem PeriodTail.repeatedSearchCompletion : PeriodTail.Statement .repeatedSearchCompletion := fun _ _ h => nomatch h

theorem PeriodTail.tagGrant (a : TagNo) (b : OpChoice) : PeriodTail.Statement (.tagGrant a b) := fun _ _ h => nomatch h

theorem PeriodTail.answer (a : BitVec 3) (b : AnswerStatus) (c : Bytes8) (d : Byte) : PeriodTail.Statement (.answer a b c d) := fun _ _ h => nomatch h

theorem PeriodTail.deadlineExpiry (a : TagNo) : PeriodTail.Statement (.deadlineExpiry a) := fun _ _ h => nomatch h

theorem PeriodTail.cleared : PeriodTail.Statement .cleared := fun _ _ h => nomatch h

theorem PeriodTail.clearDeadlineExpiry : PeriodTail.Statement .clearDeadlineExpiry := fun _ _ h => nomatch h

theorem PeriodTail.channelResetAssertion (a : Master) : PeriodTail.Statement (.channelResetAssertion a) := fun _ _ h => nomatch h

theorem PeriodTail.channelResetRelease (a : Master) : PeriodTail.Statement (.channelResetRelease a) := fun _ _ h => nomatch h

theorem PeriodTail.powerOnReset : PeriodTail.Statement .powerOnReset := fun _ _ h => nomatch h

theorem PeriodTail.powerOnResetRelease : PeriodTail.Statement .powerOnResetRelease := fun _ _ h => nomatch h

theorem PeriodTail.shortPeriod (a : Nat) : PeriodTail.Statement (.shortPeriod a) := by
  intro h p hp
  simp only [encodePeriod, Option.mem_def, Option.some.injEq] at hp
  subst hp
  simpa [Instr.wellFormed, Frame.wellFormed] using h

theorem PeriodTail.readPeriod (a : Nat) (b : Nat) : PeriodTail.Statement (.readPeriod a b) := by
  intro h p hp
  simp only [encodePeriod, Option.mem_def, Option.some.injEq] at hp
  subst hp
  exact (by simpa [Instr.wellFormed] using h : _ ∧ _).2

theorem PeriodTail.badcmd (a : Byte) (b : Frame) : PeriodTail.Statement (.badcmd a b) := by
  intro h p hp
  simp only [encodePeriod, Option.mem_def, Option.some.injEq] at hp
  subst hp
  exact (by simpa [Instr.wellFormed, Frame.wellFormed] using h : _ ∧ _).2

theorem PeriodTail.status (a : Frame) : PeriodTail.Statement (.status a) := by
  intro h p hp
  simp only [encodePeriod, Option.mem_def, Option.some.injEq] at hp
  subst hp
  simpa [Instr.wellFormed, Frame.wellFormed] using h

theorem PeriodTail.stage (a : Frame) : PeriodTail.Statement (.stage a) := by
  intro h p hp
  simp only [encodePeriod, Option.mem_def, Option.some.injEq] at hp
  subst hp
  simpa [Instr.wellFormed, Frame.wellFormed] using h

theorem PeriodTail.commit (a : Frame) : PeriodTail.Statement (.commit a) := by
  intro h p hp
  simp only [encodePeriod, Option.mem_def, Option.some.injEq] at hp
  subst hp
  simpa [Instr.wellFormed, Frame.wellFormed] using h

theorem PeriodTail.readWindow (a : Frame) : PeriodTail.Statement (.readWindow a) := by
  intro h p hp
  simp only [encodePeriod, Option.mem_def, Option.some.injEq] at hp
  subst hp
  simpa [Instr.wellFormed, Frame.wellFormed] using h

theorem PeriodTail.bind (a : Frame) : PeriodTail.Statement (.bind a) := by
  intro h p hp
  simp only [encodePeriod, Option.mem_def, Option.some.injEq] at hp
  subst hp
  simpa [Instr.wellFormed, Frame.wellFormed] using h

theorem PeriodTail.readBinding (a : Frame) : PeriodTail.Statement (.readBinding a) := by
  intro h p hp
  simp only [encodePeriod, Option.mem_def, Option.some.injEq] at hp
  subst hp
  simpa [Instr.wellFormed, Frame.wellFormed] using h

theorem PeriodTail.readStream (a : Frame) : PeriodTail.Statement (.readStream a) := by
  intro h p hp
  simp only [encodePeriod, Option.mem_def, Option.some.injEq] at hp
  subst hp
  simpa [Instr.wellFormed, Frame.wellFormed] using h

theorem PeriodTail.popFault (a : Frame) : PeriodTail.Statement (.popFault a) := by
  intro h p hp
  simp only [encodePeriod, Option.mem_def, Option.some.injEq] at hp
  subst hp
  simpa [Instr.wellFormed, Frame.wellFormed] using h

theorem PeriodTail.setDeadline (a : Frame) : PeriodTail.Statement (.setDeadline a) := by
  intro h p hp
  simp only [encodePeriod, Option.mem_def, Option.some.injEq] at hp
  subst hp
  simpa [Instr.wellFormed, Frame.wellFormed] using h

theorem PeriodTail.backClear (a : Frame) : PeriodTail.Statement (.backClear a) := by
  intro h p hp
  simp only [encodePeriod, Option.mem_def, Option.some.injEq] at hp
  subst hp
  simpa [Instr.wellFormed, Frame.wellFormed] using h

theorem PeriodTail.mselAssertion : PeriodTail.Statement .mselAssertion := fun _ _ h => nomatch h

end Sys2Proof.Laws
end

