-- ==== Sys2Proof/Laws/Translation.lean ====
section
/-! SUPPORT. The course of a request from its translation to HELD, to the PWQ or to its reply: what each step of it
does in the cases that the spec names. -/

namespace Sys2Proof.Machine

/-! ## Readiness (R74) -/

theorem failsAtReadiness_of_free {s : State} {o : WordOp} (h : s.quarantinedBy o.word = none) :
    s.failsAtReadiness o = none := by
  unfold State.failsAtReadiness
  split
  · exact h
  · rfl

theorem failsAtReadiness_of_pending {s : State} {o : WordOp} (h : o.state = .pending) :
    s.failsAtReadiness o = s.quarantinedBy o.word := by
  unfold State.failsAtReadiness
  rw [if_pos h]

/-- Only a PENDING operation fails at readiness (R74). -/
theorem failsAtReadiness_of_not_pending {s : State} {o : WordOp} (h : o.state ≠ .pending) :
    s.failsAtReadiness o = none := by
  unfold State.failsAtReadiness
  rw [if_neg h]

theorem timeoutOp_of_none {s : State} {o : WordOp} (h : s.failsAtReadiness o = none) : s.timeoutOp o = o := by
  unfold State.timeoutOp
  rw [h]

theorem timeoutOp_of_some {s : State} {o : WordOp} {t : TagNo} (h : s.failsAtReadiness o = some t) :
    s.timeoutOp o = { o with state := .done (.failed .timeout) (some t) } := by
  unfold State.timeoutOp
  rw [h]

/-- Writing a record back changes nothing. -/
theorem setRecord_self {s : State} {m : Master} {r : Option Request} (h : s.record m = r) : s.setRecord m r = s := by
  subst h
  simp [State.setRecord, State.record]

/-- A later write of a record covers an earlier one. -/
@[simp] theorem setRecord_setRecord (s : State) (m : Master) (a b : Option Request) :
    (s.setRecord m a).setRecord m b = s.setRecord m b := by
  simp [State.setRecord]

/-- Where no operation of the record waits on a quarantine and one is not DONE, judging readiness changes nothing. -/
theorem judgeReadiness_of_free {s : State} {m : Master} {r : Request} (hr : s.record m = some r)
    (h : ∀ o ∈ r.ops, s.failsAtReadiness o = none) (hf : r.finished = false) : s.judgeReadiness m = s := by
  have hops : r.ops.map s.timeoutOp = r.ops := by
    have he := List.map_congr_left (fun o ho => timeoutOp_of_none (s := s) (h o ho))
    rw [he, List.map_id']
  have hfaults : s.readinessFaults m r = [] := by
    unfold State.readinessFaults
    rw [List.filterMap_eq_nil_iff]
    intro o ho
    simp [h o ho]
  unfold State.judgeReadiness
  simp only [hr, hops, hfaults]
  have hset : (s.handInAll []).setRecord m (some r) = s := setRecord_self hr
  rw [hset]
  exact finishRequest_of_unfinished (by simpa [hr] using hf)

/-- Of two operations of a record, the first waits on a quarantine and fails; the other is left (R74). -/
theorem judgeReadiness_of_one {s : State} {m : Master} {r : Request} {o : WordOp} {t : TagNo}
    (hr : s.record m = some r) (hops : r.ops = [o]) (h : s.failsAtReadiness o = some t) :
    s.judgeReadiness m =
      ((s.handIn (opFault m r o .timeout t)).setRecord m
        (some { r with ops := [{ o with state := .done (.failed .timeout) (some t) }] })).finishRequest m := by
  unfold State.judgeReadiness
  simp only [hr, State.readinessFaults, hops, List.filterMap_cons, h, Option.map_some, List.filterMap_nil,
    List.map_cons, List.map_nil, timeoutOp_of_some h]
  rfl

/-! ## The end of a translation (R43, R53) -/

/-- A request with a WAITING part goes on waiting. -/
theorem completeTranslation_of_waiting {s : State} {m : Master} {r : Request}
    (h : r.parts.any (fun p => p.status = .waiting) = true) : s.completeTranslation m r = s := by
  unfold State.completeTranslation
  rw [if_pos h]

/-- A request with a failed part and none WAITING replies (R43). -/
theorem completeTranslation_of_failed {s : State} {m : Master} {r : Request}
    (h : r.parts.any (fun p => p.status = .waiting) = false)
    (hf : r.parts.all (fun p => p.status = .translated) = false) :
    s.completeTranslation m r = s.replyRequest m (composeReply r) := by
  unfold State.completeTranslation
  rw [if_neg (by simp [h]), if_neg (by simp [hf])]

/-- A translated READ is HELD (R54). -/
theorem completeTranslation_of_read {s : State} {m : Master} {r : Request}
    (h : r.parts.all (fun p => p.status = .translated) = true) (hk : r.kind = .read) :
    s.completeTranslation m r = s.holdRequest m r := by
  have hw : r.parts.any (fun p => p.status = .waiting) = false := by
    rw [List.any_eq_false]
    intro p hp
    have := List.all_eq_true.1 h p hp
    simp_all
  unfold State.completeTranslation
  rw [if_neg (by simp [hw]), if_pos h]
  simp only [hk]

/-- A translated WRITE is posted or HELD, by the posting decision (R54, R56, R57). -/
theorem completeTranslation_of_write {s : State} {m : Master} {r : Request}
    (h : r.parts.all (fun p => p.status = .translated) = true) (hk : r.kind = .write) :
    s.completeTranslation m r = if s.mayPost r = true then s.postRequest m r else s.holdRequest m r := by
  have hw : r.parts.any (fun p => p.status = .waiting) = false := by
    rw [List.any_eq_false]
    intro p hp
    have := List.all_eq_true.1 h p hp
    simp_all
  unfold State.completeTranslation
  rw [if_neg (by simp [hw]), if_pos h]
  simp only [hk]

/-- The first part of a request once it was found ONLY (R24, R26, R27). -/
def State.onlyFirst (s : State) (r : Request) (found : Option WinCopy) : Request :=
  let p : Part := { r.part1 with label := .only, lanes := partLanes .only r.addr r.sizeM1 }
  { r with part1 := s.resolvePart r p found }

/-- The first part's resolution to an ONLY part ends the translation (R24, R43). -/
theorem resolveFirst_of_only {s : State} {m : Master} {r : Request} {found : Option WinCopy} (hr : s.record m = some r)
    (hl : resolvedLabel r.addr r.sizeM1 found = .only) :
    s.resolveFirst m found =
      State.completeTranslation
        ((s.handInOption (resolutionFault m r .only found)).setRecord m (some (s.onlyFirst r found))) m
        (s.onlyFirst r found) := by
  unfold State.resolveFirst State.onlyFirst
  simp only [hr, hl]

/-- A window that covers the whole access, or an access of one granule, resolves the label to ONLY (R24). -/
theorem resolvedLabel_eq_only {a : LogAddr} {n : BitVec 3} {w : WinCopy} (h : w.contains ((a.toNat + n.toNat) / 256))
    (hn : (a.toNat + n.toNat) / 256 < 65536) : resolvedLabel a n (some w) = .only := by
  unfold resolvedLabel
  split
  · rfl
  · have h1 : granule2 a n ≠ 65536 := by unfold granule2; omega
    have h2 : granule2 a n ≤ lastGranule w.start w.lenM1 := h.2
    simp [h1, h2]

/-! ## An ONLY part of a READ that finds its window (R54, R67, R69, R71, R73) -/

/-- The words of an ONLY part, with masks and lanes, as `opShapes` lays them out (R67, R71). -/
theorem opShapes_only (a : LogAddr) (n : BitVec 3) (w : WinCopy) :
    (opShapes .only a n).map (fun sh => (partWord w .only a + BitVec.ofNat 29 sh.offset, sh.mask, sh.lanes)) =
      w.onlyShapes a (n.toNat + 1) := by
  unfold opShapes WinCopy.onlyShapes
  have hw : partWord w .only a = w.wordOf a := rfl
  have hn : Machine.sizeOf n = n.toNat + 1 := rfl
  simp only [hw, hn]
  split <;> simp

theorem partWords_only (a : LogAddr) (n : BitVec 3) (w : WinCopy) :
    partWords w .only a n = (w.onlyShapes a (n.toNat + 1)).map (·.1) := by
  rw [← opShapes_only, List.map_map]
  rfl

/-- The first part that is ONLY and has the right is TRANSLATED with the window's copy (R27, R28). -/
theorem onlyFirst_translated (s : State) (r : Request) (w : WinCopy) (hp : w.permits r.kind = true) :
    s.onlyFirst r (some w) = { r with part1 := s.onlyPart w r.addr (r.sizeM1.toNat + 1) } := by
  unfold State.onlyFirst State.resolvePart State.onlyPart State.snapshotFor
  simp only [hp, if_true, partWords_only]
  rfl

/-- Of the entries that a part's snapshot numbers, an operation keeps those for its own word (R73). -/
theorem snapshot_of_word {es : List Entry} (hn : (es.map (·.id)).Nodup) {ws : List WordAddr} {x : WordAddr}
    (hx : x ∈ ws) :
    (((es.filter fun e => ws.contains e.word).map (·.id)).filter fun id =>
      es.any fun e => e.id == id && e.word == x) = (es.filter fun e => e.word = x).map (·.id) := by
  rw [List.filter_map, List.filter_filter]
  congr 1
  apply List.filter_congr
  intro e he
  simp only [Function.comp]
  rw [Bool.eq_iff_iff]
  simp only [Bool.and_eq_true, List.any_eq_true, beq_iff_eq, decide_eq_true_eq, List.contains_iff_mem]
  constructor
  · rintro ⟨⟨e', he', hid, hw⟩, _⟩
    rw [← List.inj_on_of_nodup_map hn he' he hid]
    exact hw
  · intro h
    exact ⟨⟨e, he, rfl, h⟩, h ▸ hx⟩

/-- The operations made from the ONLY part of a READ, with their own snapshots (R67, R69, R71, R73). -/
theorem requestOps_only_read {s : State} {r : Request} {w : WinCopy} (hk : r.kind = .read) (h2 : r.part2 = none)
    (hn : (s.pwq.map (·.id)).Nodup) (h1 : r.part1 = s.onlyPart w r.addr (r.sizeM1.toNat + 1)) :
    (requestOps r).map s.opSnapshot = s.onlyReads r.ctx w r.addr (r.sizeM1.toNat + 1) := by
  have hops : requestOps r = partOps r r.part1 := by
    unfold requestOps Request.parts
    simp [h2]
  rw [hops]
  unfold partOps State.onlyReads
  rw [← opShapes_only, h1]
  simp only [State.onlyPart, hk, workOf, List.map_map]
  apply List.map_congr_left
  intro sh hsh
  simp only [Function.comp, State.opSnapshot]
  congr 1
  refine snapshot_of_word hn ?_
  rw [← opShapes_only, List.map_map]
  exact List.mem_map_of_mem (f := _) hsh

/-- A READ whose ONLY part is TRANSLATED and whose words are free of quarantine is HELD with its operations PENDING
(R54, R67, R74). -/
theorem holdRequest_of_only_read {s : State} {m : Master} {r : Request} {w : WinCopy} (hk : r.kind = .read)
    (h2 : r.part2 = none) (hn : (s.pwq.map (·.id)).Nodup)
    (h1 : r.part1 = s.onlyPart w r.addr (r.sizeM1.toNat + 1))
    (hq : ∀ x ∈ w.onlyShapes r.addr (r.sizeM1.toNat + 1), s.quarantinedBy x.1 = none) :
    s.holdRequest m r = s.setRecord m (some { r with
      state := .held
      ops := s.onlyReads r.ctx w r.addr (r.sizeM1.toNat + 1)
      gathered := Bytes8.zero }) := by
  unfold State.holdRequest
  rw [requestOps_only_read hk h2 hn h1]
  apply judgeReadiness_of_free (r := { r with
    state := .held, ops := s.onlyReads r.ctx w r.addr (r.sizeM1.toNat + 1), gathered := Bytes8.zero })
  · simp [State.record, State.setRecord]
  · intro o ho
    apply failsAtReadiness_of_free
    obtain ⟨x, hx, rfl⟩ := List.mem_map.1 ho
    exact hq x hx
  · unfold Request.finished State.onlyReads WinCopy.onlyShapes
    dsimp only
    split <;> rfl

/-- The first part's resolution that ends the translation of a READ (R28, R43, R54). -/
theorem resolveFirst_of_only_read {s : State} {m : Master} {r : Request} {w : WinCopy} (hk : r.kind = .read)
    (h2 : r.part2 = none) (hn : (s.pwq.map (·.id)).Nodup) (hr : s.record m = some r)
    (hl : resolvedLabel r.addr r.sizeM1 (some w) = .only) (hp : w.readOk = true)
    (hq : ∀ x ∈ w.onlyShapes r.addr (r.sizeM1.toNat + 1), s.quarantinedBy x.1 = none) :
    s.resolveFirst m (some w) = s.setRecord m (some { r with
      state := .held
      part1 := s.onlyPart w r.addr (r.sizeM1.toNat + 1)
      ops := s.onlyReads r.ctx w r.addr (r.sizeM1.toNat + 1)
      gathered := Bytes8.zero }) := by
  have hp' : w.permits r.kind = true := by
    rw [hk]
    exact hp
  have hf : resolutionFault m r .only (some w) = none := by
    unfold resolutionFault
    simp [hp']
  rw [resolveFirst_of_only hr hl, onlyFirst_translated _ _ _ hp', hf, completeTranslation_of_read,
    holdRequest_of_only_read (w := w)]
  · show (s.setRecord m _).setRecord m _ = _
    rw [setRecord_setRecord]
    rfl
  · exact hk
  · exact h2
  · exact hn
  · rfl
  · exact hq
  · simp [Request.parts, h2, State.onlyPart]
  · exact hk

/-- A reply makes the record IDLE, whatever was written to it before (R61). -/
theorem replyRequest_setRecord (s : State) (m : Master) (x : Option Request) (y : Reply) :
    (s.setRecord m x).replyRequest m y = s.replyRequest m y := by
  unfold State.replyRequest
  show (((s.sendReply m y).setRecord m x).setRecord m none).drainUpdate _ = _
  rw [setRecord_setRecord]

/-! ## Searches (R37) -/

theorem covers_iff (s : State) (c : Ctx) (w : WinIx) (g : Nat) :
    (s.slot c w).image.covers g = true ↔
      (s.slot c w).image.valid = true ∧ ((s.slot c w).copy w).contains g := by
  unfold Image.covers
  rw [Bool.and_eq_true]
  exact and_congr_right fun _ => runCovers_iff ((s.slot c w).copy w) g

/-- The one valid window that contains the granule is found (R37). -/
theorem findWindow_eq_some {s : State} {c : Ctx} {g : Nat} {w : WinIx} (hv : (s.slot c w).image.valid = true)
    (hx : ((s.slot c w).copy w).contains g)
    (hu : ∀ u : WinIx, u ≠ w → (s.slot c u).image.valid = true → ¬ ((s.slot c u).copy u).contains g) :
    s.findWindow c g = some ((s.slot c w).copy w) := by
  unfold State.findWindow
  have hfind : winIxs.find? (fun w => (s.slot c w).image.covers g) = some w := by
    cases hf : winIxs.find? (fun w => (s.slot c w).image.covers g) with
    | none =>
      rw [List.find?_eq_none] at hf
      exact absurd ((covers_iff s c w g).2 ⟨hv, hx⟩) (hf w (mem_winIxs w))
    | some u =>
      have h := (covers_iff s c u g).1 (by have := List.find?_some hf; exact this)
      by_cases e : u = w
      · rw [e]
      · exact absurd h.2 (hu u e h.1)
  rw [hfind]
  rfl

/-- A granule that no valid window contains is not found (R37). -/
theorem findWindow_eq_none {s : State} {c : Ctx} {g : Nat}
    (hu : ∀ u : WinIx, (s.slot c u).image.valid = true → ¬ ((s.slot c u).copy u).contains g) :
    s.findWindow c g = none := by
  unfold State.findWindow
  have hfind : winIxs.find? (fun w => (s.slot c w).image.covers g) = none := by
    rw [List.find?_eq_none]
    intro u _ h
    have h := (covers_iff s c u g).1 h
    exact hu u h.1 h.2
  rw [hfind]
  rfl

/-! ## The head of the PWQ (R101) -/

/-- Any bound on the number of failing heads that reaches the queue's length gives the same state. -/
theorem settleHeadUpTo_of_le : ∀ (n k : Nat) (s : State), s.pwq.length ≤ n → s.pwq.length ≤ k →
    settleHeadUpTo n s = settleHeadUpTo k s := by
  have hempty : ∀ (k : Nat) (s : State), s.pwq.length ≤ 0 → settleHeadUpTo k s = s := by
    intro k s h
    cases k with
    | zero => rfl
    | succ k =>
      have : s.oldestQueued = none := by
        unfold State.oldestQueued
        rw [List.eq_nil_of_length_eq_zero (Nat.le_zero.1 h)]
        rfl
      unfold settleHeadUpTo
      rw [this]
  intro n
  induction n with
  | zero =>
    intro k s h _
    rw [hempty k s h, hempty 0 s h]
  | succ n ih =>
    intro k s h hk
    cases k with
    | zero => rw [hempty _ s hk, hempty 0 s hk]
    | succ k =>
      unfold settleHeadUpTo
      cases ho : s.oldestQueued with
      | none => rfl
      | some e =>
        cases hq : s.quarantinedBy e.word with
        | none => simp only [hq]
        | some t =>
          have hm : e ∈ s.pwq := (oldestQueued_mem ho).1
          have hlt : (s.failEntry e .timeout t).pwq.length < s.pwq.length := by
            show (s.pwq.filter _).length < _
            exact List.length_filter_lt_length_iff_exists.2 ⟨e, hm, by simp⟩
          simp only [hq]
          exact ih k _ (by omega) (by omega)

/-- A head under a quarantine fails, and the next one is judged (R101). -/
theorem settleHead_of_quarantined {s : State} {e : Entry} {t : TagNo} (ho : s.oldestQueued = some e)
    (hq : s.quarantinedBy e.word = some t) : s.settleHead = (s.failEntry e .timeout t).settleHead := by
  have hm : e ∈ s.pwq := (oldestQueued_mem ho).1
  have hlt : (s.failEntry e .timeout t).pwq.length < s.pwq.length := by
    show (s.pwq.filter _).length < _
    exact List.length_filter_lt_length_iff_exists.2 ⟨e, hm, by simp⟩
  unfold State.settleHead
  obtain ⟨n, hn⟩ : ∃ n, s.pwq.length = n + 1 := ⟨s.pwq.length - 1, by omega⟩
  rw [hn]
  conv_lhs => unfold settleHeadUpTo
  simp only [ho, hq]
  exact settleHeadUpTo_of_le _ _ _ (by omega) le_rfl

end Sys2Proof.Machine
end

