-- ==== Sys2Proof/Laws/Words.lean ====
section
/-! SUPPORT. The words of the statements (Safety.lean) beside the definitions of the model: each lemma says that the
two name the same thing. -/

namespace Sys2Proof.Machine

/-! ## Parts and word operations (R26, R27, R67, R71, R73) -/

/-- The words of a part, with masks and lanes, as `opShapes` lays them out. -/
theorem opShapes_places (w : WinCopy) (label : Label) (a : LogAddr) (n : BitVec 3) :
    (opShapes label a n).map (fun sh => (partWord w label a + BitVec.ofNat 29 sh.offset, sh.mask, sh.lanes)) =
      w.places label a (n.toNat + 1) := by
  cases label with
  | only => exact opShapes_only a n w
  | first => simp [opShapes, WinCopy.places, bytesBefore, granule1, partWord, physAddr, partAddr, WinCopy.wordOf]
  | second => simp [opShapes, WinCopy.places, bytesBefore, granule1, partWord, physAddr, partAddr, Machine.sizeOf]

theorem partWords_places (w : WinCopy) (label : Label) (a : LogAddr) (n : BitVec 3) :
    partWords w label a n = (w.places label a (n.toNat + 1)).map (·.1) := by
  rw [← opShapes_places, List.map_map]
  rfl

theorem partLanes_eq_partRun (label : Label) (a : LogAddr) (n : BitVec 3) :
    partLanes label a n = partRun label a (n.toNat + 1) := by
  cases label <;> rfl

/-- A part for which a window was found. -/
theorem resolvePart_some (s : State) (r : Request) (p : Part) (w : WinCopy)
    (hl : p.lanes = partLanes p.label r.addr r.sizeM1) : s.resolvePart r p (some w) = s.foundPart r p.label w := by
  unfold State.resolvePart State.foundPart State.snapshotFor
  rw [← partWords_places, ← partLanes_eq_partRun, ← hl]
  dsimp only
  split <;> simp_all

/-- A part for which none was found. -/
theorem resolvePart_none (s : State) (r : Request) (p : Part) (hl : p.lanes = partLanes p.label r.addr r.sizeM1) :
    s.resolvePart r p none = missedPart r p.label := by
  unfold State.resolvePart missedPart
  rw [← partLanes_eq_partRun, ← hl]

theorem secondPart_eq_waitingPart (r : Request) : secondPart r = waitingPart r .second := rfl

/-- The operations made from a request, with their own snapshots. -/
theorem requestOps_translatedOps (s : State) (r : Request) : (requestOps r).map s.opSnapshot = s.translatedOps r := by
  unfold requestOps State.translatedOps
  rw [List.map_flatMap]
  congr 1
  funext p
  unfold partOps
  cases p.copy with
  | none => rfl
  | some w =>
    dsimp only
    rw [← opShapes_places, List.map_map, List.map_map]
    rfl

theorem requestOps_length (s : State) (r : Request) : (requestOps r).length = (s.translatedOps r).length := by
  rw [← requestOps_translatedOps, List.length_map]

/-- Entries are numbered along the operations they are made from (R57, R96). -/
theorem entriesOf_eq_mapIdx (s : State) (m : Master) (r : Request) : ∀ (ops : List WordOp) (id : Nat),
    entriesOf m r id ops = (ops.map s.opSnapshot).mapIdx fun i o => entryOf m r (id + i) o
  | [], _ => rfl
  | o :: rest, id => by
    rw [entriesOf, entriesOf_eq_mapIdx s m r rest (id + 1), List.map_cons, List.mapIdx_cons]
    congr 1
    congr 1
    funext i o
    rw [Nat.add_assoc, Nat.add_comm 1]

theorem entriesOf_postedEntries (s : State) (m : Master) (r : Request) :
    entriesOf m r s.nextEntry (requestOps r) = s.postedEntries m r := by
  rw [entriesOf_eq_mapIdx s m r, requestOps_translatedOps]
  rfl

/-! ## The outcome of a translation (R43, R44, R54, R56) -/

theorem all_translated {r : Request} (h : r.translated) : r.parts.all (fun p => p.status = .translated) = true :=
  List.all_eq_true.2 fun p hp => decide_eq_true (h p hp).1

/-- The posting decision. -/
theorem mayPost_iff_posts {s : State} {r : Request} (h : r.translated) : s.mayPost r = true ↔ s.posts r := by
  unfold State.mayPost State.posts
  rw [Bool.and_eq_true, decide_eq_true_iff, requestOps_length s, List.all_eq_true]
  refine and_congr ⟨fun h1 p hp w hw => ?_, fun h1 p hp => ?_⟩ Iff.rfl
  · have := h1 p hp
    rw [Option.mem_def.1 hw] at this
    exact of_decide_eq_true this
  · cases hc : p.copy with
    | none => exact absurd hc (h p hp).2
    | some w => exact decide_eq_true (h1 p hp w hc)

/-- The request enters HELD with its operations. -/
theorem holdRequest_eq (s : State) (m : Master) (r : Request) :
    s.holdRequest m r = State.judgeReadiness { s with
      records := s.records.set m (some { r with
        state := .held, ops := s.translatedOps r, gathered := Bytes8.zero }) } m := by
  unfold State.holdRequest
  rw [requestOps_translatedOps]
  rfl

/-- The WRITE is posted. -/
theorem postRequest_eq (s : State) (m : Master) (r : Request) :
    s.postRequest m r = State.settleHead { s with
      pwq := s.pwq ++ s.postedEntries m r
      nextEntry := s.nextEntry + (s.postedEntries m r).length
      records := s.records.set m none
      drain := s.drain.update fun job => Member.afterPosting m (qualifyingEntries job (s.postedEntries m r))
      out := { s.out with replies := s.out.replies.set m (some postedReply) } } := by
  unfold State.postRequest
  rw [entriesOf_postedEntries]
  rfl

/-- The record that a part found through a window hands in. -/
theorem handInOption_deniedUnless (s : State) (m : Master) (r : Request) (label : Label) (w : WinCopy) :
    s.handInOption (resolutionFault m r label (some w)) = { s with log := deniedUnless s.log m r label w } := by
  unfold resolutionFault deniedUnless
  dsimp only
  split <;> rfl

/-- The record that a part not found hands in. -/
theorem handInOption_unmappedIn (s : State) (m : Master) (r : Request) (label : Label) :
    s.handInOption (resolutionFault m r label none) = { s with log := unmappedIn s.log m r label } := rfl

/-! ## Searches and first parts (R24, R31, R32, R37, R38, R39) -/

/-- A completion that delivers. -/
theorem exec_delivers {s : State} {c : Instr} {v : Served} (h : s.delivers c v) :
    exec c s = .next (State.deliver { s.beginEvent with engine := .idle } v.lookup) := by
  obtain ⟨h, ha⟩ := h
  rcases h with ⟨rfl, he, hv⟩ | ⟨rfl, he⟩
  · rw [exec_searchCompletion]
    unfold execSearchCompletion
    simp [he, ha, hv]
  · rw [exec_repeatedSearchCompletion]
    unfold execRepeatedSearchCompletion
    simp [he, ha]

theorem findWindow_of_holdsGranule {s : State} {c : Ctx} {w : WinIx} {g : Nat} (h : s.holdsGranule c w g) :
    s.findWindow c g = some ((s.slot c w).copy w) := findWindow_eq_some h.1 h.2.1 h.2.2

theorem findWindow_of_lacksGranule {s : State} {c : Ctx} {g : Nat} (h : s.lacksGranule c g) :
    s.findWindow c g = none := findWindow_eq_none h

theorem loadStream_some (s : State) (l : Lookup) (w : WinCopy) :
    s.loadStream l (some w) = { s with streams := s.loaded l.master l.ctx w } := by
  unfold State.loadStream State.loaded State.setStream
  dsimp only
  split <;> rfl

/-- The first part's resolution to a FIRST part, after which the SECOND's translation begins. -/
theorem resolveFirst_of_first {s : State} {m : Master} {r : Request} {found : Option WinCopy}
    (hr : s.record m = some r) (hl : resolvedLabel r.addr r.sizeM1 found = .first) :
    s.resolveFirst m found =
      State.beginSecond
        ((s.handInOption (resolutionFault m r .first found)).setRecord m (some { r with
          part1 := s.resolvePart r { r.part1 with label := .first, lanes := partLanes .first r.addr r.sizeM1 } found }))
        m := by
  unfold State.resolveFirst
  simp only [hr, hl]

/-! ## Readiness (R72, R99) -/

/-- No tag holds the word, neither LIVE nor in quarantine. -/
theorem wordHeld_eq_false_iff (s : State) (w : WordAddr) :
    s.wordHeld w = false ↔
      ∀ t : TagNo, (∀ l : LiveWork, (s.tag t).state = .live l → l.word ≠ w) ∧ (s.tag t).state ≠ .quarantined w := by
  rw [wordHeld_eq_false]
  refine forall_congr' fun t => ?_
  cases (s.tag t).state <;> simp [TagState.holds]

theorem opReady_iff_readyFor (s : State) (m : Master) (r : Request) (o : WordOp) :
    s.opReady m r o = true ↔ s.readyFor m r o := by
  rw [opReady_iff, wordHeld_eq_false_iff]
  rfl

theorem mem_readyOps (s : State) (m : Master) (r : Request) (i : Nat) :
    i ∈ s.readyOps m r ↔ ∃ o : WordOp, r.ops[i]? = some o ∧ s.opReady m r o = true := by
  unfold State.readyOps
  rw [List.mem_filter, List.mem_range]
  constructor
  · rintro ⟨hi, h⟩
    exact ⟨r.ops[i], List.getElem?_eq_getElem hi, by simpa [List.getElem?_eq_getElem hi] using h⟩
  · rintro ⟨o, ho, h⟩
    exact ⟨(List.getElem?_eq_some_iff.1 ho).1, by simpa [ho] using h⟩

/-- The oldest QUEUED entry has none QUEUED before it. -/
theorem oldestQueued_eq_some (s : State) (e : Entry) :
    s.oldestQueued = some e ↔
      (∃ older newer : List Entry, s.pwq = older ++ e :: newer ∧ ∀ x ∈ older, x.state ≠ .queued) ∧
      e.state = .queued := by
  unfold State.oldestQueued
  rw [List.find?_eq_some_iff_append]
  simp only [beq_iff_eq, Bool.not_eq_true', beq_eq_false_iff_ne]
  exact and_comm

theorem offeredEntry_iff_offers (s : State) (e : Entry) : s.offeredEntry = some e ↔ s.offers e := by
  unfold State.offers
  rw [← wordHeld_eq_false_iff, ← and_assoc, ← oldestQueued_eq_some]
  constructor
  · exact offeredEntry_eq_some
  · rintro ⟨h1, h2, h3⟩
    unfold State.offeredEntry
    simp [h1, h2, h3]

/-! ## The Fault Log (R162) -/

theorem accepts_iff_hasRoom (l : FaultLog) : l.accepts = true ↔ l.hasRoom := by
  unfold FaultLog.accepts FaultLog.hasRoom
  rw [Bool.and_eq_true, decide_eq_true_iff]
  refine and_congr Iff.rfl ?_
  cases h1 : l.records.head? with
  | none => simp
  | some o =>
    cases h2 : l.records.getLast? with
    | none => simp
    | some n =>
      simp only [Option.mem_def, Option.some.injEq, forall_eq', seqDistance]
      exact decide_eq_true_iff

/-! ## Byte layouts (section 10.4) -/

theorem bytes16_eq (x : BitVec 16) : bytes16 x = bigEndian 2 x.toNat := by
  simp only [bytes16, bigEndian, List.range_succ, List.range_zero, List.nil_append, List.map_cons, List.cons_append,
    List.map_nil]
  congr 1
  · apply BitVec.eq_of_toNat_eq
    simp [Nat.shiftRight_eq_div_pow]
  · congr 1
    apply BitVec.eq_of_toNat_eq
    simp

theorem bytes24_eq (x : BitVec 24) : bytes24 x = bigEndian 3 x.toNat := by
  simp only [bytes24, bigEndian, List.range_succ, List.range_zero, List.nil_append, List.map_cons, List.cons_append,
    List.map_nil]
  congr 1
  · apply BitVec.eq_of_toNat_eq
    simp [Nat.shiftRight_eq_div_pow]
  · congr 1
    · apply BitVec.eq_of_toNat_eq
      simp [Nat.shiftRight_eq_div_pow]
    · congr 1
      apply BitVec.eq_of_toNat_eq
      simp

theorem bytes32_eq (w : WordAddr) : bytes32 (w.setWidth 32) = bigEndian 4 w.toNat := by
  have h : (w.setWidth 32).toNat = w.toNat := by
    simp
    omega
  rw [← h]
  generalize w.setWidth 32 = x
  simp only [bytes32, bigEndian, List.range_succ, List.range_zero, List.nil_append, List.map_cons, List.cons_append,
    List.map_nil]
  congr 1
  · apply BitVec.eq_of_toNat_eq
    simp [Nat.shiftRight_eq_div_pow]
  · congr 1
    · apply BitVec.eq_of_toNat_eq
      simp [Nat.shiftRight_eq_div_pow]
    · congr 1
      · apply BitVec.eq_of_toNat_eq
        simp [Nat.shiftRight_eq_div_pow]
      · congr 1
        apply BitVec.eq_of_toNat_eq
        simp

theorem targetByte_eq (t : Target) : targetByte t = targetCode t := by
  cases t with
  | commit c w => revert c w; decide
  | bind m => revert m; decide

end Sys2Proof.Machine
end

