-- ==== Sys2Proof/Tests/Slice0.lean ====
section
/-! SUPPORT. Small tests: ill-formed operands that the check refuses, the worked values of the spec, one step of each
command, and states that meet the hypotheses of the statements. -/

namespace Sys2Proof.Tests

open Sys2Proof.Machine

/-! ## WellFormed refuses ill-formed operands -/

theorem test_short_period_of_8_edges_refused : (Instr.shortPeriod 8).wellFormed = false := by decide
theorem test_read_period_without_byte_refused : (Instr.readPeriod 0 0).wellFormed = false := by decide
theorem test_read_period_tail_8_refused : (Instr.readPeriod 1 8).wellFormed = false := by decide
theorem test_badcmd_of_a_command_code_refused : (Instr.badcmd 0x41 ⟨[], 0⟩).wellFormed = false := by decide
theorem test_badcmd_of_a_read_period_refused : (Instr.badcmd 0 ⟨[], 0⟩).wellFormed = false := by decide
theorem test_badcmd_tail_8_refused : (Instr.badcmd 0x77 ⟨[], 8⟩).wellFormed = false := by decide
theorem test_status_tail_8_refused : (Instr.status ⟨[], 8⟩).wellFormed = false := by decide
theorem test_stage_tail_8_refused : (Instr.stage ⟨[], 8⟩).wellFormed = false := by decide
theorem test_commit_tail_8_refused : (Instr.commit ⟨[], 8⟩).wellFormed = false := by decide
theorem test_read_window_tail_8_refused : (Instr.readWindow ⟨[], 8⟩).wellFormed = false := by decide
theorem test_bind_tail_8_refused : (Instr.bind ⟨[], 8⟩).wellFormed = false := by decide
theorem test_read_binding_tail_8_refused : (Instr.readBinding ⟨[], 8⟩).wellFormed = false := by decide
theorem test_read_stream_tail_8_refused : (Instr.readStream ⟨[], 8⟩).wellFormed = false := by decide
theorem test_pop_fault_tail_8_refused : (Instr.popFault ⟨[], 8⟩).wellFormed = false := by decide
theorem test_set_deadline_tail_8_refused : (Instr.setDeadline ⟨[], 8⟩).wellFormed = false := by decide
theorem test_back_clear_tail_8_refused : (Instr.backClear ⟨[], 8⟩).wellFormed = false := by decide

/-! ## Worked values -/

/-- Eight bytes written out. -/
def word (b0 b1 b2 b3 b4 b5 b6 b7 : Byte) : Bytes8 := ⟨#[b0, b1, b2, b3, b4, b5, b6, b7], rfl⟩

/-- The word of Chapter 4's worked example (R87). -/
theorem test_check_byte_chapter4 : checkByte (word 0x10 0x20 0x30 0x40 0x50 0x60 0x70 0x80) = 0x7F := by decide
/-- The five answers of Table 5-5. -/
theorem test_table_5_5 :
    agrees (word 0x3C 0xA5 0x0F 0x96 0x00 0x7E 0xC3 0x11) 0x53 = true ∧
    agrees (word 0x3C 0xA5 0x0F 0x96 0x08 0x7E 0xC3 0x11) 0x53 = false ∧
    agrees (word 0x3C 0xA5 0x07 0x96 0x08 0x7E 0xC3 0x11) 0x53 = true ∧
    agrees (word 0x3C 0xA5 0x0F 0x96 0x08 0x7E 0xC2 0x11) 0x53 = false ∧
    agrees (word 0x3C 0xA5 0x0F 0x96 0x00 0x7E 0xC3 0x11) 0x43 = false := by decide
theorem test_period_decodes_commit : decodePeriod ⟨[0x11, 0x04, 0x00], 0⟩ = .commit ⟨[0x04, 0x00], 0⟩ := by decide
theorem test_period_decodes_set_deadline : decodePeriod ⟨[0x40, 0x10], 3⟩ = .setDeadline ⟨[0x10], 3⟩ := by decide
theorem test_period_decodes_badcmd : decodePeriod ⟨[0x02], 0⟩ = .badcmd 0x02 ⟨[], 0⟩ := by decide
/-- No row of the opcode table gives bits, so no word spells a command. -/
theorem test_table_words_spell_nothing : decodeTableWord 8 0x41 = none := by decide

/-! ## Small states -/

/-- Window 4.0 of Table 2-3 at generation 3: granules 0200h to 020Fh at 01000000h, read, write, POSTED. -/
def winA : WinCopy := ⟨0, 3, 0x0200, 0x000F, 0x010000, true, true, .posted⟩

/-- The same window without rights. -/
def winNo : WinCopy := { winA with readOk := false, writeOk := false }

/-- The same window, STRICT. -/
def winStrict : WinCopy := { winA with posting := .strict }

/-- A window of the last granule, read only. -/
def winTop : WinCopy := ⟨1, 0, 0xFFFF, 0x0000, 0x020000, true, false, .strict⟩

/-- The window of the next granules, 0210h to 0213h, POSTED. -/
def winB : WinCopy := ⟨2, 1, 0x0210, 0x0003, 0x010040, true, true, .posted⟩

/-- A window that ends one granule before the last. -/
def winLow : WinCopy := ⟨1, 0, 0xFFFE, 0x0000, 0x020000, true, false, .strict⟩

/-- Master M0 bound to context 4, its stream record naming this window, the slot of the Window Table holding it. -/
def bound (w : WinCopy) : State :=
  { State.reset with
    windows :=
      { slots := State.reset.windows.slots.set 4
          ((State.reset.windows.slots[4]).set w.index
            { image := ⟨true, w.start, w.lenM1, w.base, w.readOk, w.writeOk, w.posting⟩, gen := w.gen })
        versions := State.reset.windows.versions }
    bindings := State.reset.bindings.set 0 (some 4)
    streams := State.reset.streams.set 0 (some { ctx := 4, win := w }) }

/-- The same with the stream record absent. -/
def unstreamed (w : WinCopy) : State := { bound w with streams := State.reset.streams }

/-- The state with tag t so. -/
def withTag (s : State) (t : TagNo) (g : TagState) : State := s.setTag t { state := g, lastWord := 0x00200068 }

/-- A READ offer of `sizeM1 + 1` bytes at a. -/
def readOf (a : LogAddr) (sizeM1 : BitVec 3) : Offer := ⟨.read, a, sizeM1, Bytes8.zero⟩

/-- A WRITE offer of `sizeM1 + 1` bytes at a. -/
def writeOf (a : LogAddr) (sizeM1 : BitVec 3) : Offer := ⟨.write, a, sizeM1, word 1 2 3 4 5 6 7 8⟩

/-- An operation of a one-word request on word 00200068h, positions 5 to 7. -/
def opOf (w : Work) (st : OpState) : WordOp :=
  { label := .only, ctx := 4, winIx := 0, gen := 3, word := 0x00200068, mask := ⟨5, 3⟩, lanes := ⟨0, 3⟩
    data := word 0 0 0 0 0 0x9A 0x9B 0x9C, work := w, state := st, snapshot := [] }

/-- The second operation of a two-word request, on word 00200069h, positions 0 to 2. -/
def opNext (w : Work) (st : OpState) : WordOp :=
  { opOf w st with word := 0x00200069, mask := ⟨0, 3⟩, lanes := ⟨3, 3⟩ }

/-- A translated ONLY part through window 4.0. -/
def partA : Part := { label := .only, lanes := ⟨0, 6⟩, status := .translated, copy := some winA, snapshot := [] }

/-- A request of M0 with these operations. -/
def reqOf (k : ReqKind) (st : ReqState) (ops : List WordOp) : Request :=
  { state := st, serial := 20, kind := k, addr := 0x020345, sizeM1 := 5, data := word 1 2 3 4 5 6 0 0, ctx := 4
    part1 := partA, part2 := none, ops := ops, gathered := Bytes8.zero }

/-- A request of M0 in LOOKUP whose ONLY part waits. -/
def waitingReq : Request :=
  { reqOf .read .lookup [] with part1 := { partA with status := .waiting, copy := none } }

/-- A request of M0 in LOOKUP whose FIRST part is TRANSLATED and whose SECOND waits. -/
def secondReq : Request :=
  { reqOf .read .lookup [] with
    addr := 0x020FFE
    part1 := { partA with label := .first, lanes := ⟨0, 2⟩ }
    part2 := some { label := .second, lanes := ⟨2, 4⟩, status := .waiting, copy := none, snapshot := [] } }

/-- A request of M0 in LOOKUP whose FIRST part waits: it ends in granule 0210h. -/
def firstReq : Request :=
  { waitingReq with addr := 0x020FFE, part1 := { waitingReq.part1 with label := .first, lanes := ⟨0, 2⟩ } }

/-- The same at the end of the space: it would end past FFFFFFh. -/
def overrunReq : Request := { firstReq with addr := 0xFFFFFE }

/-- A request of M0 both of whose parts are TRANSLATED. -/
def bothReq (k : ReqKind) (w1 w2 : WinCopy) : Request :=
  { secondReq with
    kind := k
    part1 := { secondReq.part1 with copy := some w1 }
    part2 := some
      { label := .second, lanes := ⟨2, 4⟩, status := .translated, copy := some w2, snapshot := [] } }

/-- A request of M0 whose parts are resolved so. -/
def failedReq (st : PartStatus) (st2 : Option PartStatus) : Request :=
  { secondReq with
    part1 := { secondReq.part1 with status := st }
    part2 := st2.map fun x => { label := .second, lanes := ⟨2, 4⟩, status := x, copy := none, snapshot := [] } }

/-- The lookup that serves one of them. -/
def servedOf (label : Label) (granule : BitVec 16) (abandoned : Bool) : Served :=
  { lookup := { master := 0, ctx := 4, granule := granule, label := label }, captured := 0, abandoned := abandoned }

/-- A PWQ entry of M0 for word 00200068h. -/
def entryOf (id : Nat) (w : Work) (st : EntryState) : Entry :=
  { id := id, master := 0, serial := 5, ctx := 4, addr := 0x020345, sizeM1 := 2, label := .only, winIx := 0, gen := 3
    word := 0x00200068, mask := ⟨5, 3⟩, data := word 0 0 0 0 0 0x9A 0x9B 0x9C, work := w, state := st }

/-- The fields of a LIVE tag on word 00200068h. -/
def liveOf (w : Work) (o : Owner) : LiveWork := { word := 0x00200068, work := w, owner := o, count := 64 }

/-- An orphan of M0. -/
def orphanA : Orphan := { master := 0, ctx := 4, winIx := 0, gen := 3, data := Bytes8.zero }

/-- M0's request has one operation, ISSUED on tag 0, and tag 0 is LIVE with it. -/
def issued (k : ReqKind) (w : Work) : State :=
  withTag ((bound winA).setRecord 0 (some (reqOf k .active [opOf w (.issued 0)]))) 0
    (.live (liveOf w (.request 0 .only)))

/-- A PWQ entry ISSUED on tag 2, and tag 2 LIVE with it. -/
def queued (w : Work) : State :=
  withTag { bound winA with pwq := [entryOf 0 w (.issued 2)], nextEntry := 1 } 2 (.live (liveOf w .pwqEntry))

/-- M0's one-word READ waits, HELD and PENDING. -/
def held : State := (bound winA).setRecord 0 (some (reqOf .read .held [opOf .read .pending]))

/-- One QUEUED entry stands in the PWQ. -/
def offered : State := { bound winA with pwq := [entryOf 0 .write .queued], nextEntry := 1 }

/-- n QUEUED entries stand in the PWQ. -/
def filled (n : Nat) : State :=
  { bound winA with pwq := (List.range n).map fun i => entryOf i .write .queued, nextEntry := n }

/-- A log of n records, numbered from 0 on. -/
def logOf (n : Nat) (next : BitVec 16) : FaultLog :=
  ⟨(List.range n).map fun i => ⟨BitVec.ofNat 16 i, strayFault 0 0⟩, next⟩

/-- An engine that serves this. -/
def serving (s : State) (e : Engine) : State := { s with engine := e }

/-- The state a command leads to. -/
def after (c : Instr) (s : State) : State :=
  match exec c s with
  | .next t => t
  | .fault _ => s
  | .refused _ => s

/-! ## One step of each command -/

/-- Event 1 of section 11.1: two READ operations, words 00200068h and 00200069h, the record HELD. -/
theorem test_acceptance_makes_two_reads :
    ((after (.requestAcceptance 0 (readOf 0x020345 5)) (bound winA)).record 0).map
        (fun r => (r.state, r.ops.map fun o => (o.word, o.mask, o.lanes, o.work))) =
      some (.held, [(0x00200068, ⟨5, 3⟩, ⟨0, 3⟩, .read), (0x00200069, ⟨0, 3⟩, ⟨3, 3⟩, .read)]) := by decide
/-- Event 1 of section 11.2: an RMW entry for word 00200102h, the reply OK with posted yes, the record IDLE. -/
theorem test_posted_write_joins_the_queue :
    (after (.requestAcceptance 0 (writeOf 0x020812 2)) (bound winA)).pwq.map
        (fun e => (e.word, e.mask, e.data, e.work)) =
      [(0x00200102, ⟨2, 3⟩, word 0 0 1 2 3 0 0 0, .rmw .readPhase)] := by decide
theorem test_offer_removal_ends_holdoff :
    ((after (.offerRemoval 0) (after (.requestAcceptance 0 (readOf 0x020345 5)) (bound winA))).channel 0).taken =
      false := by decide
theorem test_search_begin_takes_head :
    (after .searchBegin { State.reset with waitList := [(servedOf .only 0x0203 false).lookup] }).engine =
      .searching (servedOf .only 0x0203 false) := by decide
theorem test_search_completion_holds_the_read :
    ((after .searchCompletion (serving ((unstreamed winA).setRecord 0 (some waitingReq))
      (.searching (servedOf .only 0x0203 false)))).record 0).map (fun r => (r.state, r.ops.length)) =
      some (.held, 2) := by decide
theorem test_repeated_search_completion_finds_none :
    (after .repeatedSearchCompletion (serving (State.reset.setRecord 0 (some waitingReq))
      (.repeating (servedOf .only 0x0203 false)))).out.replies[0] = some ⟨.unmapped, false, Bytes8.zero⟩ := by decide
theorem test_tag_grant_sends_read :
    (after (.tagGrant 3 .first) held).out.command = some (.read 3 0x00200068) := by decide
/-- Event 4 of section 11.1: positions 5 to 7 go to lanes 0 to 2, and the reply carries them. -/
theorem test_answer_gathers_and_replies :
    ((after (.answer 0 .ok (word 0 1 2 3 4 0xA1 0xB2 0xC3) 0x2B) (issued .read .read)).out.replies[0]) =
      some ⟨.ok, false, word 0xA1 0xB2 0xC3 0 0 0 0 0⟩ := by decide
theorem test_answer_merges :
    (after (.answer 2 .ok (word 0x11 0x22 0x33 0x44 0x55 0x66 0x77 0x88) 0x77) (queued (.rmw .readPhase))).out.command =
      some (.write 2 0x00200068 (word 0x11 0x22 0x33 0x44 0x55 0x9A 0x9B 0x9C)
        (checkByte (word 0x11 0x22 0x33 0x44 0x55 0x9A 0x9B 0x9C))) := by decide
theorem test_expiry_quarantines :
    ((after (.deadlineExpiry 0) (issued .read .read)).tag 0).state = .quarantined 0x00200068 := by decide
theorem test_cleared_frees :
    ((after .cleared { withTag State.reset 1 (.quarantined 7) with
      port := { (withTag State.reset 1 (.quarantined 7)).port with back := .clearing 64 } }).tag 1).state =
      .free := by decide
theorem test_clear_expiry_fails :
    (after .clearDeadlineExpiry { State.reset with
      port := { State.reset.port with back := .clearing 64 } }).port.lastClear = .failed := by decide
theorem test_channel_reset_makes_orphan :
    ((after (.channelResetAssertion 0) (issued .write .write)).tag 0).state =
      .live (liveOf .write (.orphan { orphanA with data := word 0 0 0 0 0 0x9A 0x9B 0x9C })) := by decide
theorem test_channel_reset_release_opens :
    ((after (.channelResetRelease 0) (after (.channelResetAssertion 0) State.reset)).channel 0).crst = false := by decide
theorem test_power_on_reset_empties :
    (after .powerOnReset (queued .write)).pwq = [] ∧ (after .powerOnReset (queued .write)).out = Out.quiet := by decide
theorem test_power_on_reset_release : (after .powerOnResetRelease (after .powerOnReset held)).porst = false := by decide
theorem test_short_period_keeps_buffer :
    (after (.shortPeriod 7) { State.reset with link := ⟨some ⟨.done, []⟩, .none⟩ }).link.buffer =
      some ⟨.done, []⟩ := by decide
theorem test_read_period_shows_and_empties :
    (after (.readPeriod 2 0) { State.reset with link := ⟨some ⟨.done, [0xFF]⟩, .none⟩ }).out.mdo =
      some ⟨[0x01, 0xFF], []⟩ := by decide
theorem test_badcmd_answer :
    (after (.badcmd 0x77 ⟨[], 0⟩) State.reset).link.buffer = some ⟨.badcmd, []⟩ := by decide
theorem test_status_bytes :
    (after (.status ⟨[], 0⟩) State.reset).link.buffer =
      some ⟨.done, [0, 0, 0, 0, 0, 0, 0, 0, 0, 0, 0, 64]⟩ := by decide
/-- The STAGE of section 10's layout: flags F0h, start 0200h, length minus one 000Fh, base 010000h. -/
theorem test_stage_fields :
    (after (.stage ⟨[0xF0, 0x02, 0x00, 0x00, 0x0F, 0x01, 0x00, 0x00], 0⟩) State.reset).staging =
      ⟨⟨true, 0x0200, 0x000F, 0x010000, true, true, .posted⟩, true⟩ := by decide
theorem test_commit_without_stage :
    (after (.commit ⟨[4, 0], 0⟩) State.reset).link.buffer = some ⟨.nostage, []⟩ := by decide
theorem test_commit_advances_generation :
    ((after (.commit ⟨[4, 0], 0⟩) { bound winA with
      staging := ⟨⟨true, 0x0200, 0x000F, 0x010000, true, true, .posted⟩, true⟩ }).slot 4 0).gen = 4 := by decide
theorem test_read_window_bytes :
    (after (.readWindow ⟨[4, 0], 0⟩) (bound winA)).link.buffer =
      some ⟨.done, [0xF0, 0x02, 0x00, 0x00, 0x0F, 0x01, 0x00, 0x00, 0x03]⟩ := by decide
theorem test_bind_to_none :
    (after (.bind ⟨[0, 0xFF], 0⟩) (bound winA)).binding 0 = none := by decide
/-- A BIND's drain waits for the request that M0 holds, and completes at its reply (R142, R145). -/
theorem test_bind_drain_ends_at_reply :
    (after (.bind ⟨[0, 0xFF], 0⟩) (issued .write .write)).drain =
      ⟨.draining (.bind 0) [.request 0 true [] []], none⟩ ∧
    (after (.answer 0 .ok Bytes8.zero 0) (after (.bind ⟨[0, 0xFF], 0⟩) (issued .write .write))).drain =
      ⟨.idle, some (.bind 0)⟩ := by decide
/-- CRSTm# marks the lookup that is served abandoned, and it delivers nothing (R41). -/
theorem test_channel_reset_abandons_lookup :
    (after (.channelResetAssertion 0) (serving ((unstreamed winA).setRecord 0 (some waitingReq))
      (.searching (servedOf .only 0x0203 false)))).engine = .searching (servedOf .only 0x0203 true) := by decide
/-- A WRITE through a STRICT window is HELD with RMW operations (R54, R69). -/
theorem test_strict_write_is_held :
    ((after (.requestAcceptance 0 (writeOf 0x020345 5)) (bound winStrict)).record 0).map
        (fun r => r.ops.map fun o => (o.word, o.mask, o.data)) =
      some [(0x00200068, ⟨5, 3⟩, word 0 0 0 0 0 1 2 3), (0x00200069, ⟨0, 3⟩, word 4 5 6 0 0 0 0 0)] ∧
    ((after (.requestAcceptance 0 (writeOf 0x020345 5)) (bound winStrict)).record 0).map
        (fun r => (r.state, r.ops.map (·.work))) =
      some (.held, [.rmw .readPhase, .rmw .readPhase]) := by decide
/-- A FIRST part that hits is TRANSLATED, and the lookup of granule 0210h joins the tail (R24, R31). -/
theorem test_first_part_hits_and_second_waits :
    (((after (.requestAcceptance 0 (readOf 0x020FFE 3)) (bound winA)).record 0).map
        fun r => (r.part1.status, r.part1.lanes, r.part2.map fun p => (p.status, p.lanes))) =
      some (.translated, ⟨0, 2⟩, some (.waiting, ⟨2, 2⟩)) ∧
    (after (.requestAcceptance 0 (readOf 0x020FFE 3)) (bound winA)).waitList =
      [(servedOf .second 0x0210 false).lookup] := by decide
/-- The two parts' operations stand in one record, lane 0's first (R26, R67). -/
theorem test_second_part_delivery_holds_both :
    ((after .searchCompletion (serving ((unstreamed winB).setRecord 0 (some secondReq))
      (.searching (servedOf .second 0x0210 false)))).record 0).map
        (fun r => (r.state, r.ops.map fun o => (o.label, o.word, o.mask, o.lanes))) =
      some (.held, [(.first, 0x002001FF, ⟨6, 2⟩, ⟨0, 2⟩), (.second, 0x00200800, ⟨0, 4⟩, ⟨2, 4⟩)]) := by decide
theorem test_read_binding_byte :
    (after (.readBinding ⟨[0], 0⟩) (bound winA)).link.buffer = some ⟨.done, [4]⟩ := by decide
theorem test_read_stream_bytes :
    (after (.readStream ⟨[0], 0⟩) (bound winA)).link.buffer =
      some ⟨.done, [0xC0, 0xF0, 0x02, 0x00, 0x00, 0x0F, 0x01, 0x00, 0x00, 0x03]⟩ := by decide
/-- A STRAY record of tag 0 and word 00200068h at sequence number 7: presence of word and tag alone. -/
theorem test_pop_fault_bytes :
    (after (.popFault ⟨[], 0⟩) { State.reset with log := ⟨[⟨7, strayFault 0 0x00200068⟩], 8⟩ }).link.buffer =
      some ⟨.done, [0, 7, 0x80, 0x28, 0, 0, 0, 0, 0, 0, 0, 0x00, 0x20, 0x00, 0x68]⟩ := by decide
theorem test_set_deadline : (after (.setDeadline ⟨[1], 0⟩) State.reset).port.deadline = 1 := by decide
theorem test_back_clear_sends_clear :
    (after (.backClear ⟨[], 0⟩) State.reset).out.command = some .clear := by decide
theorem test_msel_assertion_begins_period :
    (after .mselAssertion State.reset).link.period = .running none := by decide

/-! ## States and operands that meet the hypotheses of the statements -/

theorem witness_StepRunsFrontCommand :
    (∃ (c : Instr) (rest : List Instr), { State.reset with pending := [.searchBegin] }.pending = c :: rest) ∧
    State.reset.pending = [] := ⟨⟨_, _, rfl⟩, rfl⟩

theorem witness_EveryCommandAnswersNext :
    State.reset.waitList = [] ∧ (serving State.reset (.repeating (servedOf .only 0x0203 false))).engine ≠ .idle ∧
    (∀ v : Served, State.reset.engine ≠ .searching v) ∧ (∀ v : Served, State.reset.engine ≠ .repeating v) ∧
    (∀ l : LiveWork, ((withTag State.reset 5 (.quarantined 7)).tag 5).state ≠ .live l) ∧
    State.reset.port.back = .normal ∧ (State.reset.channel 0).taken = false ∧
    (after .mselAssertion State.reset).link.period ≠ .none ∧ (8 : Nat) ≤ 8 ∧
    (0x00 : Byte) ∈ [0x00, 0x01, 0x10, 0x11, 0x12, 0x20, 0x21, 0x22, 0x30, 0x40, (0x41 : Byte)] ∧
    (0x41 : Byte) ∈ [0x00, 0x01, 0x10, 0x11, 0x12, 0x20, 0x21, 0x22, 0x30, 0x40, (0x41 : Byte)] :=
  ⟨rfl, by decide, fun _ h => (nomatch h), fun _ h => (nomatch h), fun _ h => (nomatch h), rfl, rfl, by decide,
    by decide, by decide, by decide⟩

theorem witness_UnboundRequestReplies : State.reset.mayAccept 0 ∧ State.reset.binding 0 = none := by
  unfold State.mayAccept; decide

theorem witness_StreamMissJoinsWaitList :
    (unstreamed winA).mayAccept 0 ∧ (unstreamed winA).binding 0 = some 4 ∧
    (unstreamed winA).missesStream 0 4 0x0203 ∧ (bound winA).missesStream 0 4 0x0210 ∧
    (bound winA).missesStream 0 5 0x0203 := by unfold State.mayAccept State.missesStream; decide

/-- Its second clause: a FIRST part at the last granule of its window, and at the last granule but one of the space. -/
theorem witness_FirstPartHits :
    (bound winA).mayAccept 0 ∧ (bound winA).stream 0 = some ⟨4, winA⟩ ∧ (bound winA).binding 0 = some 4 ∧
    winA.contains (0x020FFE / 256) ∧ (0x020FFE + 3) / 256 = 0x020FFE / 256 + 1 ∧
    ¬ winA.contains (0x020FFE / 256 + 1) ∧
    (bound winLow).mayAccept 0 ∧ (bound winLow).stream 0 = some ⟨4, winLow⟩ ∧ winLow.contains (0xFFFEFF / 256) ∧
    (0xFFFEFF + 1) / 256 = 0xFFFEFF / 256 + 1 ∧ 0xFFFEFF / 256 + 1 < 65536 ∧
    ¬ winLow.contains (0xFFFEFF / 256 + 1) := by unfold State.mayAccept WinCopy.contains; decide

/-- Boundary granules: the window's first and its last, and an access that ends on the last byte of the space. -/
theorem witness_StreamHitReadIsHeld :
    (bound winA).mayAccept 0 ∧ (bound winA).stream 0 = some ⟨4, winA⟩ ∧ (bound winA).binding 0 = some 4 ∧
    winA.contains 0x0200 ∧ winA.contains 0x020F ∧ winA.readOk = true ∧ ((bound winA).pwq.map (·.id)).Nodup ∧
    (∀ x ∈ winA.onlyShapes 0x020345 6, (bound winA).quarantinedBy x.1 = none) ∧
    winTop.contains ((0xFFFFF8 + 7) / 256) ∧ (0xFFFFF8 + 7) / 256 < 65536 := by
  unfold State.mayAccept WinCopy.contains; decide

/-- Its WRITE clause: through a STRICT window, and through a POSTED one with 8 entries in the queue. -/
theorem witness_StrictWriteIsHeld :
    (bound winStrict).mayAccept 0 ∧ (bound winStrict).stream 0 = some ⟨4, winStrict⟩ ∧
    (bound winStrict).binding 0 = some 4 ∧ winStrict.contains (0x020345 / 256) ∧
    winStrict.contains ((0x020345 + 5) / 256) ∧ winStrict.writeOk = true ∧ winStrict.posting = .strict ∧
    (filled 8).mayAccept 0 ∧ (filled 8).stream 0 = some ⟨4, winA⟩ ∧ (filled 8).binding 0 = some 4 ∧
    8 < (filled 8).pwq.length + (winA.onlyShapes 0x020345 2).length ∧ ((filled 8).pwq.map (·.id)).Nodup ∧
    (∀ x ∈ winA.onlyShapes 0x020345 2, (filled 8).quarantinedBy x.1 = none) := by
  unfold State.mayAccept WinCopy.contains; decide

/-- Its last clauses, and the second of PostedWriteJoinsQueue: two parts TRANSLATED, a READ, a WRITE with a STRICT
window, a WRITE of two operations with 6 and with 7 entries in the queue, and a quarantined word. -/
theorem witness_translated_parts :
    (bothReq .read winA winB).translated ∧ (bothReq .write winStrict winB).translated ∧
    ¬ (bound winA).posts (bothReq .write winStrict winB) ∧ (filled 6).posts (bothReq .write winA winB) ∧
    ¬ (filled 7).posts (bothReq .write winA winB) ∧
    (∀ o ∈ (bound winA).translatedOps (bothReq .read winA winB), (bound winA).quarantinedBy o.word = none) ∧
    (∃ o ∈ (withTag (bound winA) 5 (.quarantined 0x00200800)).translatedOps (bothReq .read winA winB),
      (withTag (bound winA) 5 (.quarantined 0x00200800)).quarantinedBy o.word = some 5) := by
  unfold Request.translated State.posts; decide

theorem witness_QuarantinedWordFailsAtAcceptance :
    (withTag (bound winStrict) 5 (.quarantined 0x00200068)).mayAccept 0 ∧
    (withTag (bound winStrict) 5 (.quarantined 0x00200068)).stream 0 = some ⟨4, winStrict⟩ ∧
    (withTag (bound winStrict) 5 (.quarantined 0x00200068)).binding 0 = some 4 ∧
    winStrict.contains (0x020345 / 256) ∧ 0x020345 % 8 + (2 + 1) ≤ 8 ∧ winStrict.readOk = true ∧
    winStrict.writeOk = true ∧ winStrict.posting = .strict ∧
    (withTag (bound winStrict) 5 (.quarantined 0x00200068)).quarantinedBy (winStrict.wordOf 0x020345) = some 5 := by
  unfold State.mayAccept WinCopy.contains; decide

theorem witness_PostedWriteJoinsQueue :
    offered.mayAccept 0 ∧ offered.stream 0 = some ⟨4, winA⟩ ∧ offered.binding 0 = some 4 ∧
    winA.contains (0x020812 / 256) ∧ winA.contains ((0x020812 + 7) / 256) ∧ winA.writeOk = true ∧
    winA.posting = .posted ∧ (winA.onlyShapes 0x020812 8).length = 2 ∧ offered.pwq.length + 2 ≤ 8 ∧
    (∀ e ∈ offered.oldestQueued, offered.quarantinedBy e.word = none) ∧
    (∀ x ∈ winA.onlyShapes 0x020812 8, offered.quarantinedBy x.1 = none) := by
  unfold State.mayAccept WinCopy.contains; decide

/-- The last byte of the space and the byte after it: the two clauses meet there and exclude each other. -/
theorem witness_FailureAtAcceptance :
    (bound winNo).mayAccept 0 ∧ (bound winNo).stream 0 = some ⟨4, winNo⟩ ∧ winNo.contains (0x020345 / 256) ∧
    winNo.permits .read = false ∧ winNo.permits .write = false ∧
    (bound winTop).mayAccept 0 ∧ (bound winTop).stream 0 = some ⟨4, winTop⟩ ∧ winTop.contains (0xFFFFFF / 256) ∧
    winTop.permits .read = true ∧ winTop.permits .write = false ∧ 0xFFFFFF + 0 ≤ 0xFFFFFF ∧
    0xFFFFFF < 0xFFFFFF + 1 := by unfold State.mayAccept WinCopy.contains; decide

/-- Its clauses about any request: each way in which a translation fails, and a part that waits. -/
theorem witness_FailedTranslation :
    (failedReq .denied none).ops = [] ∧ (failedReq .denied none).part1.status = .denied ∧
    (failedReq .unmapped (some .translated)).part1.status = .unmapped ∧
    (∃ p ∈ (failedReq .translated (some .denied)).part2, p.status = .denied) ∧
    (∃ p ∈ (failedReq .translated (some .unmapped)).part2, p.status = .unmapped) ∧
    (∀ p ∈ (failedReq .denied (some .unmapped)).part2, p.status ≠ .waiting) ∧
    waitingReq.part1.status = .waiting ∧ (∃ p ∈ secondReq.part2, p.status = .waiting) :=
  ⟨rfl, rfl, rfl, ⟨_, rfl, rfl⟩, ⟨_, rfl, rfl⟩, by decide, rfl, ⟨_, rfl, rfl⟩⟩

theorem witness_OffersWaitUntilRemoved :
    (¬ held.mayAccept 0 ∧ (held.channel 0).taken = false) ∧
    ((after (.requestAcceptance 0 (readOf 0x020345 5)) (bound winA)).channel 0).taken = true := by
  unfold State.mayAccept; decide

theorem witness_ChannelResetOfIdleRecord : (bound winA).record 0 = none := by decide

theorem witness_ChannelResetMakesOrphans :
    (issued .read .read).record 0 = some (reqOf .read .active [opOf .read (.issued 0)]) ∧
    ((issued .read .read).tag 0).state = .live (liveOf .read (.request 0 .only)) ∧
    (reqOf .read .active [opOf .read (.issued 0)]).opOnTag 0 = some (opOf .read (.issued 0)) ∧
    ((issued .read .read).tag 1).state = .free := by decide

theorem witness_SearchesBeginAndRepeat :
    ({ State.reset with waitList := [(servedOf .only 0x0203 false).lookup] }.engine = .idle) ∧
    (servedOf .only 0x0203 false).abandoned = false ∧ { servedOf .only 0x0203 false with captured := 1 }.captured ≠
      State.reset.version (servedOf .only 0x0203 false).lookup.ctx ∧
    (servedOf .only 0x0203 true).abandoned = true ∧
    (serving State.reset (.searching (servedOf .only 0x0203 true))).engine =
      .searching (servedOf .only 0x0203 true) ∧
    (serving State.reset (.repeating (servedOf .only 0x0203 true))).engine =
      .repeating (servedOf .only 0x0203 true) := by decide

theorem witness_SearchDeliversWindow :
    (servedOf .only 0x0203 false).captured = (unstreamed winA).version 4 ∧
    (servedOf .only 0x0203 false).lookup = ⟨0, 4, BitVec.ofNat 16 (0x020345 / 256), .only⟩ ∧
    ((unstreamed winA).setRecord 0 (some waitingReq)).record 0 = some waitingReq ∧ waitingReq.kind = .read ∧
    waitingReq.part2 = none ∧ (waitingReq.addr.toNat + waitingReq.sizeM1.toNat) / 256 = waitingReq.addr.toNat / 256 ∧
    ((unstreamed winA).slot 4 0).image.valid = true ∧ ((unstreamed winA).slot 4 0).copy 0 = winA ∧
    winA.contains (waitingReq.addr.toNat / 256) ∧
    (∀ u : WinIx, u ≠ 0 → ((unstreamed winA).slot 4 u).image.valid = false) ∧ winA.readOk = true ∧
    (∀ y ∈ winA.onlyShapes waitingReq.addr (waitingReq.sizeM1.toNat + 1), (unstreamed winA).quarantinedBy y.1 = none) :=
  by unfold WinCopy.contains; decide

/-- Its clauses for any part, in both completions: ONLY; FIRST at the window's last granule; FIRST at the end of the
space; SECOND. -/
theorem witness_SearchDeliversAnyPart :
    (serving (unstreamed winA) (.searching (servedOf .only 0x0203 false))).delivers .searchCompletion
      (servedOf .only 0x0203 false) ∧
    (serving (unstreamed winA) (.repeating (servedOf .first 0x020F false))).delivers .repeatedSearchCompletion
      (servedOf .first 0x020F false) ∧
    (firstReq.addr.toNat + firstReq.sizeM1.toNat) / 256 = firstReq.addr.toNat / 256 + 1 ∧
    firstReq.addr.toNat / 256 = 0x020F ∧ (unstreamed winA).binding 0 = some 4 ∧ overrunReq.addr.toNat / 256 = 0xFFFF ∧
    (overrunReq.addr.toNat + overrunReq.sizeM1.toNat) / 256 = 65536 ∧
    (servedOf .second 0x0210 false).lookup.label = .second :=
  ⟨⟨Or.inl ⟨rfl, rfl, rfl⟩, rfl⟩, ⟨Or.inr ⟨rfl, rfl⟩, rfl⟩, by decide⟩

/-- The windows that these lookups find, at a run's first and last granule. -/
theorem witness_WindowsFound :
    (unstreamed winA).holdsGranule 4 0 0x0200 ∧ (unstreamed winA).holdsGranule 4 0 0x020F ∧ ¬ winA.contains 0x0210 ∧
    (unstreamed winA).missesStream 0 4 0x0210 ∧ (unstreamed winTop).holdsGranule 4 1 0xFFFF ∧
    (unstreamed winB).holdsGranule 4 2 0x0210 := by
  refine ⟨?_, ?_, ?_, ?_, ?_, ?_⟩
  · unfold State.holdsGranule WinCopy.contains; decide
  · unfold State.holdsGranule WinCopy.contains; decide
  · unfold WinCopy.contains; decide
  · unfold State.missesStream; decide
  · unfold State.holdsGranule WinCopy.contains; decide
  · unfold State.holdsGranule WinCopy.contains; decide

/-- For an ONLY part, and for a SECOND part at the granule after the window's last. -/
theorem witness_SearchFindsNoWindow :
    (servedOf .only 0x0203 false).abandoned = false ∧ waitingReq.ops = [] ∧ waitingReq.part2 = none ∧
    (waitingReq.addr.toNat + waitingReq.sizeM1.toNat) / 256 = waitingReq.addr.toNat / 256 ∧
    (∀ u : WinIx, (State.reset.slot 4 u).image.valid = false) ∧
    (servedOf .second 0x0210 false).lookup.label = .second ∧ secondReq.part1.status = .translated ∧
    secondReq.ops = [] ∧ ¬ (((unstreamed winA).slot 4 0).copy 0).contains 0x0210 ∧
    (∀ u : WinIx, u ≠ 0 → ((unstreamed winA).slot 4 u).image.valid = false) := by
  unfold WinCopy.contains; decide

/-- Its clauses for a FIRST part that is not found: the SECOND misses the stream, hits it, or lies past the end. -/
theorem witness_FirstPartNotFound :
    (unstreamed winB).lacksGranule 4 0x020F ∧ firstReq.addr.toNat / 256 = 0x020F ∧
    firstReq.addr.toNat / 256 + 1 < 65536 ∧ (unstreamed winB).missesStream 0 4 0x0210 ∧
    (bound winB).lacksGranule 4 0x020F ∧ (bound winB).stream 0 = some ⟨4, winB⟩ ∧ winB.contains 0x0210 ∧
    State.reset.lacksGranule 4 0xFFFF ∧ overrunReq.addr.toNat / 256 + 1 = 65536 ∧
    (unstreamed winA).lacksGranule 4 0x0210 := by
  unfold State.lacksGranule State.missesStream WinCopy.contains; decide

theorem witness_CheckByteIsOddParity : (0 : Nat) < 8 ∧ (7 : Nat) < 8 := by decide

/-- Positions 5 to 7 and lanes 0 to 2: the first and the last byte of the run, and a lane outside it. -/
theorem witness_LanesFollowPositions :
    (∃ p i : Fin 8, p.val = 5 + (i.val - 0) ∧ 0 ≤ i.val ∧ i.val < 0 + 3 ∧ i.val = 0) ∧
    (∃ p i : Fin 8, p.val = 5 + (i.val - 0) ∧ 0 ≤ i.val ∧ i.val < 0 + 3 ∧ i.val = 2) ∧
    (∃ i : Fin 8, ¬ (0 ≤ i.val ∧ i.val < 0 + 3)) :=
  ⟨⟨5, 0, by decide⟩, ⟨7, 2, by decide⟩, ⟨3, by decide⟩⟩

theorem witness_ReplyIsComposed :
    partA.status = .translated ∧ partA.label = .only ∧
    (reqOf .read .active [opOf .read (.done .ok none), opNext .read (.done (.failed .check) (some 1))]).part2 = none ∧
    { secondReq with part2 := some { partA with label := .second } }.part2 = some { partA with label := .second } ∧
    secondReq.part1.label = .first ∧ secondReq.part1.status = .translated ∧
    (reqOf .read .active [opOf .read (.done (.failed .memory) (some 1))]).ops =
      [opOf .read (.done (.failed .memory) (some 1))] := by decide

theorem witness_LastOperationReplies :
    (∀ o ∈ [opOf .read (.done .ok none)], o.state = .done .ok none) ∧
    (∃ o ∈ [opOf .read .pending], o.state = .pending) ∧ (reqOf .read .held []).state ≠ .lookup := by decide

/-- Every tag is FREE while M0's READ is HELD. -/
theorem held_words (t : TagNo) :
    (∀ l : LiveWork, (held.tag t).state = .live l → l.word ≠ (opOf .read .pending).word) ∧
    (held.tag t).state ≠ .quarantined (opOf .read .pending).word := by
  have h : (held.tag t).state = .free := by
    revert t
    decide
  rw [h]
  exact ⟨(fun _ h => nomatch h), (fun h => nomatch h)⟩

theorem witness_ArbiterTakesFirstReady :
    held.nextSource = some (.master 0) ∧ offered.nextSource = some .pwq ∧ State.reset.nextSource = none ∧
    held.readyFor 0 (reqOf .read .held [opOf .read .pending]) (opOf .read .pending) :=
  ⟨by decide, by decide, by decide, rfl, by decide, (fun _ h => nomatch h), (fun _ h => nomatch h), held_words, rfl⟩

theorem witness_GrantToRequest :
    (held.tag 3).state = .free ∧ held.nextSource = some (.master 0) ∧
    held.record 0 = some (reqOf .read .held [opOf .read .pending]) ∧
    chooseOp .first (held.readyOps 0 (reqOf .read .held [opOf .read .pending])) = some 0 ∧
    chooseOp .second (held.readyOps 0 (reqOf .read .held [opOf .read .pending])) = some 0 := by decide

theorem witness_GrantToQueue :
    (offered.tag 0).state = .free ∧ offered.nextSource = some .pwq ∧
    offered.offeredEntry = some (entryOf 0 .write .queued) := by decide

theorem witness_NoGrant :
    ((issued .read .read).tag 0).state ≠ .free ∧ State.reset.nextSource = none ∧
    { State.reset.port with back := .clearing 64 }.back ≠ .normal := by decide

theorem witness_HeadUnderQuarantineFails :
    (withTag offered 4 (.quarantined 0x00200068)).oldestQueued = some (entryOf 0 .write .queued) ∧
    (withTag offered 4 (.quarantined 0x00200068)).quarantinedBy 0x00200068 = some 4 ∧
    offered.oldestQueued = some (entryOf 0 .write .queued) ∧ offered.quarantinedBy 0x00200068 = none := by decide

/-- An operation of M0 on tag 0, of each kind: for the four statements about answers to a request's operation, and for
the expiry of its tag. -/
theorem witness_answers_to_operation :
    (issued .read .read).porst = false ∧ (0#3).toNat = (0 : TagNo).val ∧
    ((issued .read .read).tag 0).state = .live (liveOf .read (.request 0 .only)) ∧
    ((issued .write .write).tag 0).state = .live (liveOf .write (.request 0 .only)) ∧
    ((issued .write (.rmw .readPhase)).tag 0).state = .live (liveOf (.rmw .readPhase) (.request 0 .only)) ∧
    ((issued .write (.rmw .writePhase)).tag 0).state = .live (liveOf (.rmw .writePhase) (.request 0 .only)) ∧
    (issued .read .read).record 0 = some (reqOf .read .active [opOf .read (.issued 0)]) ∧
    (reqOf .read .active [opOf .read (.issued 0)]).opOnTag 0 = some (opOf .read (.issued 0)) ∧
    checkByte (word 0 1 2 3 4 0xA1 0xB2 0xC3) = 0x2B ∧ checkByte (word 0 1 2 3 4 0xA1 0xB2 0xC3) ≠ 0x2A := by decide

/-- An entry on tag 2, in each kind of work: for the answers to an entry and the expiry of its tag. -/
theorem witness_answers_to_entry :
    (2#3).toNat = (2 : TagNo).val ∧
    ((queued .write).tag 2).state = .live (liveOf .write .pwqEntry) ∧
    ((queued (.rmw .readPhase)).tag 2).state = .live (liveOf (.rmw .readPhase) .pwqEntry) ∧
    ((queued (.rmw .writePhase)).tag 2).state = .live (liveOf (.rmw .writePhase) .pwqEntry) ∧
    (queued .write).entryOnTag 2 = some (entryOf 0 .write (.issued 2)) ∧
    (queued (.rmw .readPhase)).entryOnTag 2 = some (entryOf 0 (.rmw .readPhase) (.issued 2)) := by decide

/-- An orphan on tag 5, a FREE tag, a QUARANTINED tag, tag numbers 5 and 6, PORST# asserted: for the other answers and
for the expiry of an orphan's tag. -/
theorem witness_other_answers :
    ((withTag State.reset 5 (.live (liveOf .read (.orphan orphanA)))).tag 5).state =
      .live (liveOf .read (.orphan orphanA)) ∧
    (5#3).toNat = (5 : TagNo).val ∧ (State.reset.tag 5).state = .free ∧
    ((withTag State.reset 5 (.quarantined 7)).tag 5).state = .quarantined 7 ∧ 6 ≤ (6#3).toNat ∧
    (after .powerOnReset State.reset).porst = true := by decide

theorem witness_QuarantineFailsPending :
    (withTag ((bound winA).setRecord 0 (some (reqOf .read .held [opOf .read .pending, opNext .read .pending]))) 5
      (.quarantined 0x00200068)).quarantinedBy (opOf .read .pending).word = some 5 ∧
    (withTag ((bound winA).setRecord 0 (some (reqOf .read .held [opOf .read .pending, opNext .read .pending]))) 5
      (.quarantined 0x00200068)).quarantinedBy (opNext .read .pending).word = none ∧
    (opOf .read .pending).state = .pending ∧ (opNext .read (.issued 1)).state ≠ .pending ∧
    (withTag (withTag held 5 (.quarantined 0x00200068)) 4 (.quarantined 0x00200069)).quarantinedBy 0x00200068 = some 5 ∧
    (withTag (withTag held 5 (.quarantined 0x00200068)) 4 (.quarantined 0x00200069)).quarantinedBy 0x00200069 =
      some 4 := by decide

theorem witness_ClearEnds :
    { State.reset.port with back := .clearing 64 }.back = .clearing 64 ∧ State.reset.porst = false ∧
    State.reset.port.back = .normal := by decide

theorem witness_LastClearChangesAtClearEnd : ∃ t : State, exec .powerOnReset State.reset = .next t := ⟨_, rfl⟩

theorem witness_periods :
    State.reset.judgesPeriod ∧ State.reset.porst = false ∧ State.reset.link.period = .none ∧ (7 : Nat) < 8 := by
  unfold State.judgesPeriod
  exact ⟨⟨rfl, fun _ h => nomatch h⟩, rfl, rfl, by decide⟩

theorem witness_BadFramesChangeOnlyBuffer :
    (0x02 : Byte) ≠ 0x00 ∧ (0x02 : Byte) ∉ [0x01, 0x10, 0x11, 0x12, 0x20, 0x21, 0x22, 0x30, 0x40, (0x41 : Byte)] ∧
    (([] : List Byte).length ≠ 2 ∨ 0 ≠ 0) ∧ (([4, 0] : List Byte).length ≠ 2 ∨ 1 ≠ 0) := by decide

/-- PORST# asserted, and a period that it met. -/
theorem witness_LinkIgnoresPeriodsUnderReset :
    ¬ (after .powerOnReset State.reset).judgesPeriod ∧
    ¬ { State.reset with link := ⟨none, .ignored none⟩ }.judgesPeriod ∧ (7 : Nat) < 8 :=
  ⟨fun h => Bool.noConfusion h.1, fun h => h.2 none rfl, by decide⟩

/-- IDLE, and a drain set of the most members it may have (R139). -/
theorem witness_ReadCommandsChangeNothing :
    State.reset.membersRemaining ≤ 18 ∧
    { State.reset with drain := ⟨.draining (.bind 0) (List.replicate 18 (.entry 0)), none⟩ }.membersRemaining ≤ 18 := by
  decide

/-- The first and last legal argument bytes, and the first illegal ones. -/
theorem witness_argument_bytes :
    7 < (8 : Byte).toNat ∧ 15 < (16 : Byte).toNat ∧ 3 < (4 : Byte).toNat ∧ (7 : Byte).toNat = (7 : Ctx).val ∧
    (15 : Byte).toNat = (15 : WinIx).val ∧ (3 : Byte).toNat = (3 : Master).val ∧
    (7 < (0xFE : Byte).toNat ∧ (0xFE : Byte) ≠ 0xFF) := by decide

/-- A staged image that ends at the spaces' ends, one granule past the logical space, and one that shares a granule. -/
def stagedAt (start len : BitVec 16) : State :=
  { bound winA with staging := { image := ⟨true, start, len, 0xFF0000, true, true, .strict⟩, loaded := true } }

theorem witness_CommitChecksInOrder :
    State.reset.staging.loaded = false ∧
    { bound winA with drain := ⟨.draining (.bind 0) [.entry 0], none⟩ }.drain.state ≠ .idle ∧
    (serving (stagedAt 0 0) (.repeating (servedOf .only 0x0203 false))).repeatsFor 4 ∧
    ¬ (stagedAt 0 0).repeatsFor 4 ∧ (stagedAt 0xFFF0 0x0010).staging.image.runsPast ∧
    (stagedAt 0x020F 0).stagedShares 4 1 :=
  ⟨by decide, by decide, ⟨_, rfl, rfl⟩, fun ⟨_, h, _⟩ => (by cases h), by unfold Image.runsPast; decide,
    ⟨0, by decide⟩⟩

theorem witness_CommitReplacesSlot :
    (stagedAt 0xFFF0 0x000F).staging.loaded = true ∧ (stagedAt 0xFFF0 0x000F).drain.state = .idle ∧
    ¬ (stagedAt 0xFFF0 0x000F).repeatsFor 4 ∧ ¬ (stagedAt 0xFFF0 0x000F).staging.image.runsPast ∧
    ¬ (stagedAt 0x0210 0).stagedShares 4 1 ∧ ¬ (stagedAt 0x020F 0).stagedShares 4 0 := by
  refine ⟨by decide, by decide, fun ⟨_, h, _⟩ => (by cases h), by unfold Image.runsPast; decide, ?_, ?_⟩
  · unfold State.stagedShares; decide
  · unfold State.stagedShares; decide

theorem witness_BindChangesBinding :
    (bound winA).drain.state = .idle ∧ (queued .write).drainMembers (.bind 0) = [.entry 0] ∧
    (0xFF : Byte) = 0xFF ∧ (7 : Byte).toNat = (7 : Ctx).val := by decide

/-- IDLE; a drain of which every member leaves at once; one of which a member stays. -/
theorem witness_DrainSetHoldsOldWork :
    ((filled 8).pwq.map (·.id)).Nodup ∧ State.reset.drain.state = .idle ∧
    (∀ x ∈ [Member.orphan 0], Member.afterOrphan 0 x = none) ∧
    (∃ x ∈ [Member.orphan 0, .orphan 1], Member.afterOrphan 0 x ≠ none) := by decide

theorem witness_PopFaultTakesOldest :
    State.reset.log.records = [] ∧
    (FaultLog.mk [⟨7, strayFault 0 0⟩] 8).records = ⟨7, strayFault 0 0⟩ :: [] := by decide

theorem witness_SetDeadlineSetsValue : (0 : Byte) = 0 ∧ (1 : Byte) ≠ 0 ∧ (0xFF : Byte) ≠ 0 := by decide

theorem witness_BackClearStartsClear :
    (∃ (t : TagNo) (l : LiveWork), ((issued .read .read).tag t).state = .live l) ∧
    { State.reset.port with back := .clearing 64 }.back ≠ .normal ∧
    (∀ t : TagNo, (State.reset.tag t).state = .free) ∧ State.reset.port.back = .normal :=
  ⟨⟨0, _, rfl⟩, by decide, by decide, rfl⟩

theorem witness_PeriodDecodesToItsCommand :
    (Instr.commit ⟨[4, 0], 0⟩).wellFormed = true ∧ encodePeriod (.commit ⟨[4, 0], 0⟩) = some ⟨[0x11, 4, 0], 0⟩ ∧
    (Instr.badcmd 0xFF ⟨[], 7⟩).wellFormed = true ∧ encodePeriod (.readPeriod 1 0) = some ⟨[0], 0⟩ := by decide

/-! ## A state that the laws allow, and a step from it -/

/-- A posted WRITE's entry is ISSUED on tag 2, a STRAY record stands in the log, and a grant waits. -/
def busy : State :=
  { queued .write with log := ⟨[⟨7, strayFault 0 0⟩], 8⟩, pending := [.tagGrant 0 .first] }

theorem witness_WindowsStaySeparate : WindowsSeparate busy ∧ ∃ t : State, step busy = .next t :=
  ⟨by unfold WindowsSeparate; decide, _, rfl⟩

theorem witness_StreamsStayCurrent : StreamsCurrent busy := by unfold StreamsCurrent; decide

theorem witness_LogStaysOrdered : LogOrdered busy := by unfold LogOrdered; decide

/-- Room: an empty log, one of 15 records. None: one of 16, and one whose span of numbers is used up. -/
theorem witness_LogHasRoom :
    (logOf 0 0).hasRoom ∧ (logOf 15 15).hasRoom ∧ ¬ (logOf 16 16).hasRoom ∧ (logOf 2 1).hasRoom = False := by
  unfold FaultLog.hasRoom; decide

theorem witness_PowerOnValuesHold :
    PowerOnHolds { State.reset with porst := true, pending := [.cleared] } ∧
    ∃ t : State, step { State.reset with porst := true, pending := [.cleared] } = .next t :=
  ⟨fun _ => ⟨rfl, rfl, rfl, rfl, rfl, rfl, rfl, rfl, rfl, rfl, rfl, rfl, by decide, fun _ h => nomatch h⟩, _, rfl⟩

theorem busy_records (m : Master) : busy.record m = none := by
  revert m
  decide

theorem busy_entries {e : Entry} (h : e ∈ busy.pwq) : e = Tests.entryOf 0 .write (.issued 2) := List.mem_singleton.1 h

theorem busy_tagsMatchWork : TagsMatchWork busy := by
  refine ⟨?_, ?_, by decide, ?_⟩
  · intro m r hr
    rw [busy_records] at hr
    exact nomatch hr
  · intro e he t ht
    rw [busy_entries he] at ht ⊢
    cases ht
    exact ⟨rfl, rfl, rfl⟩
  · intro t
    match t with
    | 0 => trivial
    | 1 => trivial
    | 2 => exact ⟨_, List.mem_singleton_self _, rfl⟩
    | 3 => trivial
    | 4 => trivial
    | 5 => trivial

theorem busy_lookups : LookupsMatchRecords busy := by
  refine ⟨by decide, ?_, ?_⟩
  · intro l hl
    exact nomatch hl
  · intro m r hr
    rw [busy_records] at hr
    exact nomatch hr

theorem busy_heldOnce : WordsHeldOnce busy := by
  unfold WordsHeldOnce
  decide

theorem witness_WordsStayHeldOnce :
    LookupsMatchRecords busy ∧ PwqInOrder busy ∧ TagsMatchWork busy ∧ WordsHeldOnce busy ∧ ClearHasNoLiveTag busy :=
  ⟨busy_lookups, ⟨by decide, by decide, by decide, by decide⟩, busy_tagsMatchWork, busy_heldOnce, Or.inl rfl⟩

theorem busy_oldGenerations : OldGenerationsDrain busy := by
  refine ⟨?_, ?_, ?_, ?_⟩
  · intro m r hr
    rw [busy_records] at hr
    exact nomatch hr
  · intro m r hr
    rw [busy_records] at hr
    exact nomatch hr
  · intro e he h
    rw [busy_entries he] at h
    exact absurd (by decide) h
  · intro t
    match t with
    | 0 => trivial
    | 1 => trivial
    | 2 => trivial
    | 3 => trivial
    | 4 => trivial
    | 5 => trivial

theorem witness_SafeIsKept : Safe busy :=
  ⟨witness_WindowsStaySeparate.1, witness_StreamsStayCurrent, busy_lookups, trivial,
    fun m h => absurd h (by revert m; decide), ⟨by decide, by decide, by decide, by decide⟩, busy_heldOnce, Or.inl rfl,
    busy_tagsMatchWork,
    ⟨fun m r hr => (by rw [busy_records] at hr; exact nomatch hr), by decide⟩, trivial,
    fun m r hr => (by rw [busy_records] at hr; exact nomatch hr), trivial, busy_oldGenerations,
    witness_LogStaysOrdered, fun h => Bool.noConfusion h⟩

end Sys2Proof.Tests
end

section
/-! SUPPORT. The reset values, the frames of the link, and the course of a COMMIT: the layer that the statements about
windows and contexts rest on. -/

namespace Sys2Proof.Machine

/-! ## The state after reset -/

@[simp] theorem reset_slot (c : Ctx) (w : WinIx) : State.reset.slot c w = { image := Image.powerOn, gen := 0 } := by
  simp [State.slot, State.reset]

@[simp] theorem reset_version (c : Ctx) : State.reset.version c = 0 := by
  simp [State.version, State.reset]

@[simp] theorem reset_binding (m : Master) : State.reset.binding m = none := by
  simp [State.binding, State.reset]

@[simp] theorem reset_stream (m : Master) : State.reset.stream m = none := by
  simp [State.stream, State.reset]

@[simp] theorem reset_record (m : Master) : State.reset.record m = none := by
  simp [State.record, State.reset]

@[simp] theorem reset_channel (m : Master) :
    State.reset.channel m = { offer := none, taken := false, crst := false, serial := 0 } := by
  simp [State.channel, State.reset]

@[simp] theorem reset_tag (t : TagNo) : State.reset.tag t = { state := .free, lastWord := 0 } := by
  simp [State.tag, State.reset, Port.powerOn]

@[simp] theorem reset_pwq : State.reset.pwq = [] := rfl

@[simp] theorem reset_lookups : State.reset.lookups = [] := rfl

/-! ## Frames that the link judges (R169, R170) -/

@[simp] theorem afterPeriod_commitRefusal (s : State) (n k : Nat) (b : Option Response) (c : Ctx) (w : WinIx) :
    (s.afterPeriod n k b).commitRefusal c w = s.commitRefusal c w := rfl

@[simp] theorem afterPeriod_setBuffer (s : State) (n k : Nat) (b b' : Option Response) :
    (s.afterPeriod n k b).setBuffer b' = s.afterPeriod n k b' := rfl

/-- A judged frame whose command only answers changes only the buffer (R169). -/
theorem exec_answers {s : State} (h : s.judgesPeriod) {i : Instr} {f : Frame} {cmd : State → State × Response}
    {r : Response} (hi : exec i s = .next (s.commandFrame f (some cmd)))
    (hc : ∀ b, cmd (s.afterPeriod (f.args.length + 1) f.tail b) =
      (s.afterPeriod (f.args.length + 1) f.tail b, r)) :
    exec i s = .next (s.afterPeriod (f.args.length + 1) f.tail (some r)) := by
  rw [hi, exec_frame h, endPeriod_eq, hc, afterPeriod_setBuffer]

/-- A judged frame whose command only answers, without result bytes, is answered bare. -/
theorem exec_answersBare {s : State} (h : s.judgesPeriod) {i : Instr} {f : Frame} {cmd : State → State × Response}
    {st : RespStatus} (hi : exec i s = .next (s.commandFrame f (some cmd))) (hf : f.tail = 0)
    (hc : ∀ b, cmd (s.afterPeriod (f.args.length + 1) f.tail b) =
      (s.afterPeriod (f.args.length + 1) f.tail b, bare st)) : s.answersBare i (f.args.length + 1) st := by
  unfold State.answersBare
  rw [exec_answers h hi hc, hf]
  rfl

/-! ### The command of a frame of the right length (Table 10-1) -/

theorem exec_status_frame (s : State) :
    exec (.status ⟨[], 0⟩) s = .next (s.commandFrame ⟨[], 0⟩ (some statusCommand)) := rfl

theorem exec_commit_frame (s : State) (cb wb : Byte) :
    exec (.commit ⟨[cb, wb], 0⟩) s = .next (s.commandFrame ⟨[cb, wb], 0⟩ (some (commitCommand cb wb))) := rfl

theorem exec_readWindow_frame (s : State) (cb wb : Byte) :
    exec (.readWindow ⟨[cb, wb], 0⟩) s = .next (s.commandFrame ⟨[cb, wb], 0⟩ (some (readWindowCommand cb wb))) := rfl

theorem exec_readBinding_frame (s : State) (mb : Byte) :
    exec (.readBinding ⟨[mb], 0⟩) s = .next (s.commandFrame ⟨[mb], 0⟩ (some (readBindingCommand mb))) := rfl

theorem exec_readStream_frame (s : State) (mb : Byte) :
    exec (.readStream ⟨[mb], 0⟩) s = .next (s.commandFrame ⟨[mb], 0⟩ (some (readStreamCommand mb))) := rfl

theorem exec_stage_frame (s : State) (fl s1 s0 l1 l0 b2 b1 b0 : Byte) :
    exec (.stage ⟨[fl, s1, s0, l1, l0, b2, b1, b0], 0⟩) s =
      .next (s.commandFrame ⟨[fl, s1, s0, l1, l0, b2, b1, b0], 0⟩
        (some (stageCommand (stagedImage fl s1 s0 l1 l0 b2 b1 b0)))) := rfl

/-! ### Argument bytes out of range (R169) -/

theorem masterOf_eq_none {b : Byte} (h : 3 < b.toNat) : masterOf b = none := dif_neg (by omega)

theorem ctxOf_eq_none {b : Byte} (h : 7 < b.toNat) : ctxOf b = none := dif_neg (by omega)

theorem winIxOf_eq_none {b : Byte} (h : 15 < b.toNat) : winIxOf b = none := dif_neg (by omega)

/-! ### What each command of the Window Table answers -/

theorem readWindowCommand_eq {c : Ctx} {w : WinIx} {cb wb : Byte} (hc : cb.toNat = c.val) (hw : wb.toNat = w.val)
    (s : State) : readWindowCommand cb wb s = (s, { status := .done, result := windowBytes (s.slot c w) }) := by
  unfold readWindowCommand
  rw [ctxOf_eq hc, winIxOf_eq hw]

theorem readWindowCommand_range {cb wb : Byte} (h : 7 < cb.toNat ∨ 15 < wb.toNat) (s : State) :
    readWindowCommand cb wb s = (s, bare .range) := by
  unfold readWindowCommand
  rcases h with hc | hw
  · rw [ctxOf_eq_none hc]
  · rw [winIxOf_eq_none hw]
    cases ctxOf cb <;> rfl

theorem readBindingCommand_eq {m : Master} {mb : Byte} (hm : mb.toNat = m.val) (s : State) :
    readBindingCommand mb s = (s, { status := .done, result := [bindingByte (s.binding m)] }) := by
  unfold readBindingCommand
  rw [masterOf_eq hm]

theorem readBindingCommand_range {mb : Byte} (h : 3 < mb.toNat) (s : State) :
    readBindingCommand mb s = (s, bare .range) := by
  unfold readBindingCommand
  rw [masterOf_eq_none h]

theorem readStreamCommand_eq {m : Master} {mb : Byte} (hm : mb.toNat = m.val) (s : State) :
    readStreamCommand mb s = (s, { status := .done, result := streamBytes (s.stream m) }) := by
  unfold readStreamCommand
  rw [masterOf_eq hm]

theorem readStreamCommand_range {mb : Byte} (h : 3 < mb.toNat) (s : State) :
    readStreamCommand mb s = (s, bare .range) := by
  unfold readStreamCommand
  rw [masterOf_eq_none h]

theorem commitCommand_range {cb wb : Byte} (h : 7 < cb.toNat ∨ 15 < wb.toNat) (s : State) :
    commitCommand cb wb s = (s, bare .range) := by
  unfold commitCommand
  rcases h with hc | hw
  · rw [ctxOf_eq_none hc]
  · rw [winIxOf_eq_none hw]
    cases ctxOf cb <;> rfl

theorem commitCommand_refused {c : Ctx} {w : WinIx} {cb wb : Byte} {s : State} {st : RespStatus}
    (hc : cb.toNat = c.val) (hw : wb.toNat = w.val) (h : s.commitRefusal c w = some st) :
    commitCommand cb wb s = (s, bare st) := by
  unfold commitCommand
  rw [ctxOf_eq hc, winIxOf_eq hw]
  dsimp only
  rw [h]

theorem commitCommand_accepted {c : Ctx} {w : WinIx} {cb wb : Byte} {s : State}
    (hc : cb.toNat = c.val) (hw : wb.toNat = w.val) (h : s.commitRefusal c w = none) :
    commitCommand cb wb s = (s.commitEvent c w, bare .accepted) := by
  unfold commitCommand
  rw [ctxOf_eq hc, winIxOf_eq hw]
  dsimp only
  rw [h]

/-- A COMMIT leaves the state as it was, or makes the commit event of a slot that the checks of Table 1-3 let pass. -/
theorem commitCommand_cases (cb wb : Byte) (s : State) :
    (commitCommand cb wb s).1 = s ∨
      ∃ c w, s.commitRefusal c w = none ∧ (commitCommand cb wb s).1 = s.commitEvent c w := by
  by_cases h : 7 < cb.toNat ∨ 15 < wb.toNat
  · exact .inl (by rw [commitCommand_range h])
  · push Not at h
    obtain ⟨c, hc⟩ : ∃ c : Ctx, cb.toNat = c.val := ⟨⟨cb.toNat, by omega⟩, rfl⟩
    obtain ⟨w, hw⟩ : ∃ w : WinIx, wb.toNat = w.val := ⟨⟨wb.toNat, by omega⟩, rfl⟩
    cases hr : s.commitRefusal c w with
    | some st => exact .inl (by rw [commitCommand_refused hc hw hr])
    | none => exact .inr ⟨c, w, hr, by rw [commitCommand_accepted hc hw hr]⟩

/-! ## The checks of COMMIT, in their order (Table 1-3, R15 to R18) -/

theorem commitRefusal_of_unloaded {s : State} (h : s.staging.loaded = false) (c : Ctx) (w : WinIx) :
    s.commitRefusal c w = some .nostage := by
  simp [State.commitRefusal, h]

theorem commitRefusal_of_draining {s : State} (hl : s.staging.loaded = true) (h : s.drain.state ≠ .idle) (c : Ctx)
    (w : WinIx) : s.commitRefusal c w = some .busy := by
  simp [State.commitRefusal, hl, (draining_iff s).2 h]

/-- Past the checks of the staged image and the tracker, the rest decide (R15). -/
theorem commitRefusal_of_ready {s : State} (hl : s.staging.loaded = true) (hd : s.drain.state = .idle) (c : Ctx)
    (w : WinIx) : s.commitRefusal c w =
      if s.repeatingIn c then some .busy
      else if s.staging.image.valid && s.staging.image.outOfBounds then some .bounds
      else if s.staging.image.valid && s.overlaps c w then some .overlap
      else none := by
  have hdr : s.draining = false := by simpa [hd] using (draining_iff s).not
  simp [State.commitRefusal, hl, hdr]

theorem commitRefusal_of_repeating {s : State} {c : Ctx} (hl : s.staging.loaded = true) (hd : s.drain.state = .idle)
    (hr : s.repeatsFor c) (w : WinIx) : s.commitRefusal c w = some .busy := by
  rw [commitRefusal_of_ready hl hd, if_pos ((repeatingIn_iff s c).2 hr)]

theorem commitRefusal_of_runsPast {s : State} {c : Ctx} (hl : s.staging.loaded = true) (hd : s.drain.state = .idle)
    (hr : ¬ s.repeatsFor c) (hv : s.staging.image.valid = true) (hp : s.staging.image.runsPast) (w : WinIx) :
    s.commitRefusal c w = some .bounds := by
  rw [← repeatingIn_iff] at hr
  rw [← outOfBounds_iff] at hp
  simp [commitRefusal_of_ready hl hd, hr, hv, hp]

theorem commitRefusal_of_stagedShares {s : State} {c : Ctx} {w : WinIx} (hl : s.staging.loaded = true)
    (hd : s.drain.state = .idle) (hr : ¬ s.repeatsFor c) (hv : s.staging.image.valid = true)
    (hp : ¬ s.staging.image.runsPast) (hs : s.stagedShares c w) : s.commitRefusal c w = some .overlap := by
  rw [← repeatingIn_iff] at hr
  rw [← outOfBounds_iff] at hp
  rw [← overlaps_iff] at hs
  simp [commitRefusal_of_ready hl hd, hr, hv, hp, hs]

/-- A check that stands before others answers none when it passes and they do. -/
theorem check_eq_none {p : Prop} [Decidable p] (st : RespStatus) (rest : Option RespStatus) :
    (if p then some st else rest) = none ↔ ¬ p ∧ rest = none := by
  split <;> simp [*]

/-- No check fails exactly when an image is loaded, nothing drains or repeats, and the image, if valid, lies inside both
spaces and shares no granule with another valid window. -/
theorem commitRefusal_eq_none {s : State} {c : Ctx} {w : WinIx} :
    s.commitRefusal c w = none ↔
      s.staging.loaded = true ∧ s.drain.state = .idle ∧ ¬ s.repeatsFor c ∧
      (s.staging.image.valid = true → ¬ s.staging.image.runsPast ∧ ¬ s.stagedShares c w) := by
  unfold State.commitRefusal
  simp only [check_eq_none, Bool.and_eq_true, Bool.not_eq_true', Bool.not_eq_false, draining_iff, repeatingIn_iff,
    outOfBounds_iff, overlaps_iff, not_and, ne_eq, not_not, and_true]
  exact ⟨fun ⟨hl, hd, hr, hp, hs⟩ => ⟨hl, hd, hr, fun hv => ⟨hp hv, hs hv⟩⟩,
    fun ⟨hl, hd, hr, hi⟩ => ⟨hl, hd, hr, fun hv => (hi hv).1, fun hv => (hi hv).2⟩⟩

end Sys2Proof.Machine
end

section
/-! SUPPORT. Reset, PORST# and STAGE: O3, O4, O40 and O46. -/

namespace Sys2Proof.Machine

/-- Settles O3, from the reading of each block at reset. -/
theorem resetHoldsPowerOnValues : Obligations.ResetHoldsPowerOnValues := by
  unfold Obligations.ResetHoldsPowerOnValues
  refine ⟨reset_slot, reset_version, rfl, fun m => ?_, rfl, rfl, rfl, reset_tag, rfl, rfl, rfl, rfl, rfl, rfl, rfl, rfl,
    rfl⟩
  simp

/-! ## The laws at reset: no window is valid, no tag is LIVE, no record holds a request -/

theorem windowsSeparate_reset : WindowsSeparate State.reset := by
  intro c w hv
  simp [Image.powerOn] at hv

theorem streamsCurrent_reset : StreamsCurrent State.reset := by
  simp [StreamsCurrent]

theorem lookupsMatchRecords_reset : LookupsMatchRecords State.reset := by
  simp [LookupsMatchRecords]

theorem resetChannelsQuiet_reset : ResetChannelsQuiet State.reset := by
  simp [ResetChannelsQuiet]

theorem pwqInOrder_reset : PwqInOrder State.reset := by
  simp [PwqInOrder]

theorem wordsHeldOnce_reset : WordsHeldOnce State.reset := by
  simp [WordsHeldOnce, TagState.holds]

theorem tagsMatchWork_reset : TagsMatchWork State.reset := by
  simp [TagsMatchWork]

theorem nothingWaitsOnQuarantine_reset : NothingWaitsOnQuarantine State.reset := by
  simp [NothingWaitsOnQuarantine, State.oldestQueued]

theorem opsMatchParts_reset : OpsMatchParts State.reset := by
  simp [OpsMatchParts]

theorem oldGenerationsDrain_reset : OldGenerationsDrain State.reset := by
  simp [OldGenerationsDrain]

theorem logOrdered_reset : LogOrdered State.reset := ⟨Nat.zero_le _, fun _ h => nomatch h⟩

/-- PORST# is released at reset. -/
theorem powerOnHolds_reset : PowerOnHolds State.reset := fun h => Bool.noConfusion h

/-- Settles O4: each law speaks of windows, records, entries, tags or faults, and reset has none. -/
theorem resetIsSafe : Obligations.ResetIsSafe := by
  unfold Obligations.ResetIsSafe
  exact ⟨windowsSeparate_reset, streamsCurrent_reset, lookupsMatchRecords_reset, trivial, resetChannelsQuiet_reset,
    pwqInOrder_reset, wordsHeldOnce_reset, .inl rfl, tagsMatchWork_reset, nothingWaitsOnQuarantine_reset, trivial,
    opsMatchParts_reset, trivial, oldGenerationsDrain_reset, logOrdered_reset, powerOnHolds_reset⟩

/-- A period in progress at PORST# is one whose rest is ignored (R171). -/
theorem abandon_eq (p : Period) :
    p.abandon = match p with
      | .none => .none
      | .running shown => .ignored shown
      | .ignored shown => .ignored shown := by
  cases p <;> rfl

/-- Settles O40. -/
theorem powerOnResetReturnsAll : Obligations.PowerOnResetReturnsAll := by
  unfold Obligations.PowerOnResetReturnsAll
  intro s
  rw [exec_powerOnReset, execPowerOnReset, abandon_eq]
  rfl

/-- Settles O46: STAGE's command on the state after the period. -/
theorem stageLoadsImage : Obligations.StageLoadsImage := by
  unfold Obligations.StageLoadsImage
  intro s fl s1 s0 l1 l0 b2 b1 b0 h
  rw [exec_stage_frame, exec_frame h, endPeriod_eq]
  rfl

end Sys2Proof.Machine
end

section
/-! SUPPORT. The answers and the effect of a COMMIT: O47 and O48. -/

namespace Sys2Proof.Machine

/-- A COMMIT that a check refuses answers with it, and changes only the buffer. -/
theorem commit_answersBare {s : State} (h : s.judgesPeriod) {c : Ctx} {w : WinIx} {cb wb : Byte} {st : RespStatus}
    (hc : cb.toNat = c.val) (hw : wb.toNat = w.val) (hr : s.commitRefusal c w = some st) :
    s.answersBare (.commit ⟨[cb, wb], 0⟩) 3 st :=
  exec_answersBare h (exec_commit_frame s cb wb) rfl fun _ => commitCommand_refused hc hw hr

/-- Settles O47: a refusal leaves the state after the period alone, and the chain of checks is read in its order. -/
theorem commitChecksInOrder : Obligations.CommitChecksInOrder := by
  unfold Obligations.CommitChecksInOrder
  intro s cb wb h
  refine ⟨fun hout => ?_, fun c w hc hw => ⟨fun hl => ?_, fun hl hd => ?_, fun hl hd =>
    ⟨fun hr => ?_, fun hr hv => ⟨fun hp => ?_, fun hp hs => ?_⟩⟩⟩⟩
  · exact exec_answersBare h (exec_commit_frame s cb wb) rfl fun _ => commitCommand_range hout _
  · exact commit_answersBare h hc hw (commitRefusal_of_unloaded hl c w)
  · exact commit_answersBare h hc hw (commitRefusal_of_draining hl hd c w)
  · exact commit_answersBare h hc hw (commitRefusal_of_repeating hl hd hr w)
  · exact commit_answersBare h hc hw (commitRefusal_of_runsPast hl hd hr hv hp w)
  · exact commit_answersBare h hc hw (commitRefusal_of_stagedShares hl hd hr hv hp hs)

/-- A stream record that names the committed slot is dropped, any other stays (R20). -/
theorem dropNamed_eq_filter (c : Ctx) (w : WinIx) (r : Option StreamRec) :
    dropNamed c w r = r.filter fun x => !(decide (x.ctx = c) && decide (x.win.index = w)) := by
  cases r with
  | none => rfl
  | some x =>
    show (if x.names c w = true then none else some x) = (some x).filter fun x => !x.names c w
    cases hn : x.names c w <;> simp [Option.filter_some, hn]

/-- The commit event, field by field (R19, R20, R140). -/
theorem commitEvent_eq (s : State) (c : Ctx) (w : WinIx) :
    s.commitEvent c w = { s with
      windows := s.windows.commit c w s.staging.image
      streams := Vector.ofFn fun m : Master =>
        (s.stream m).filter fun r => !(decide (r.ctx = c) && decide (r.win.index = w))
      drain := if s.drainMembers (.commit c w (s.slot c w).gen) = [] then { state := .idle, last := some (.commit c w) }
        else { state := .draining (.commit c w (s.slot c w).gen) (s.drainMembers (.commit c w (s.slot c w).gen))
               last := s.drain.last } } := by
  unfold State.commitEvent
  simp only [dropNamed_eq_filter]
  cases s.drainMembers (.commit c w (s.slot c w).gen) <;> rfl

/-- Settles O48: past every check the commit event takes place, on the state after the period. -/
theorem commitReplacesSlot : Obligations.CommitReplacesSlot := by
  unfold Obligations.CommitReplacesSlot
  rintro s c w cb wb members h hc hw hl hd hr hi rfl
  have hpass : ∀ b, (s.afterPeriod 3 0 b).commitRefusal c w = none := fun b => by
    rw [afterPeriod_commitRefusal]
    exact commitRefusal_eq_none.2 ⟨hl, hd, hr, hi⟩
  rw [exec_commit_frame, exec_frame h, endPeriod_eq]
  show Host.Outcome.next ((commitCommand cb wb (s.afterPeriod 3 0 s.link.buffer)).1.setBuffer
    (some (commitCommand cb wb (s.afterPeriod 3 0 s.link.buffer)).2)) = _
  rw [commitCommand_accepted hc hw (hpass _), commitEvent_eq]
  rfl

end Sys2Proof.Machine
end

section
/-! SUPPORT. What the commands do to the Window Table, and the law of the windows: O55. -/

namespace Sys2Proof.Machine

/-! ## The parts of commands that leave the Window Table alone -/

theorem acceptOffer_windows (s : State) (m : Master) (o : Offer) : (s.acceptOffer m o).windows = s.windows := by
  unfold State.acceptOffer
  dsimp only
  split
  · rfl
  · split
    · exact (keepsTables_resolveFirst _ _ _).windows
    · rfl

theorem offerWaits_windows (s : State) (m : Master) (o : Offer) : (s.offerWaits m o).windows = s.windows := by
  unfold State.offerWaits
  split <;> rfl

theorem loadStream_windows (s : State) (l : Lookup) (found : Option WinCopy) :
    (s.loadStream l found).windows = s.windows := by
  unfold State.loadStream
  split
  · rfl
  · split <;> rfl

theorem deliver_windows (s : State) (l : Lookup) : (s.deliver l).windows = s.windows := by
  unfold State.deliver
  dsimp only
  split
  · exact (keepsTables_resolveFirst _ _ _).windows.trans (loadStream_windows _ _ _)
  · exact (keepsTables_resolveFirst _ _ _).windows.trans (loadStream_windows _ _ _)
  · exact (keepsPort_resolveSecond _ _ _).windows.trans (loadStream_windows _ _ _)

theorem abandonRequest_windows (s : State) (m : Master) : (s.abandonRequest m).windows = s.windows := by
  cases hr : s.record m with
  | none => rw [abandonRequest_of_none hr]
  | some r => rw [abandonRequest_of_some hr]

theorem expireTag_windows (s : State) (t : TagNo) (l : LiveWork) : (s.expireTag t l).windows = s.windows :=
  (expireTag_keeps s t l).windows

/-- The frame event of a period leaves what its effect leaves. -/
theorem frameEvent_windows (s : State) (n k : Nat) {effect : State → State}
    (h : ∀ s', (effect s').windows = s'.windows) : (s.frameEvent n k effect).windows = s.windows := by
  unfold State.frameEvent
  split
  · exact h _
  · rfl

/-- A command frame leaves the Window Table alone when its command does. -/
theorem commandFrame_windows (s : State) (f : Frame) {cmd : Option (State → State × Response)}
    (h : ∀ g ∈ cmd, ∀ s', (g s').1.windows = s'.windows) : (s.commandFrame f cmd).windows = s.windows := by
  refine frameEvent_windows s _ _ fun s' => ?_
  cases cmd with
  | none => rfl
  | some g => exact h g rfl s'

/-! ### The command of a frame, if its length is right -/

theorem mem_noArgs {f : Frame} {cmd g : State → State × Response} (h : g ∈ noArgs f cmd) : g = cmd := by
  unfold noArgs at h
  split at h <;> simp_all

theorem mem_oneArg {f : Frame} {cmd : Byte → State → State × Response} {g : State → State × Response}
    (h : g ∈ oneArg f cmd) : ∃ a, g = cmd a := by
  unfold oneArg at h
  split at h
  · exact ⟨_, (Option.some.inj h).symm⟩
  · exact nomatch h

theorem mem_twoArgs {f : Frame} {cmd : Byte → Byte → State → State × Response} {g : State → State × Response}
    (h : g ∈ twoArgs f cmd) : ∃ a b, g = cmd a b := by
  unfold twoArgs at h
  split at h
  · exact ⟨_, _, (Option.some.inj h).symm⟩
  · exact nomatch h

theorem mem_stageArgs {f : Frame} {g : State → State × Response} (h : g ∈ stageArgs f) : ∃ i, g = stageCommand i := by
  unfold stageArgs at h
  split at h
  · exact ⟨_, (Option.some.inj h).symm⟩
  · exact nomatch h

theorem noArgs_windows (s : State) (f : Frame) {cmd : State → State × Response}
    (h : ∀ s', (cmd s').1.windows = s'.windows) : (s.commandFrame f (noArgs f cmd)).windows = s.windows :=
  commandFrame_windows s f fun _ hg => mem_noArgs hg ▸ h

theorem oneArg_windows (s : State) (f : Frame) {cmd : Byte → State → State × Response}
    (h : ∀ a s', (cmd a s').1.windows = s'.windows) : (s.commandFrame f (oneArg f cmd)).windows = s.windows :=
  commandFrame_windows s f fun _ hg => by
    obtain ⟨a, rfl⟩ := mem_oneArg hg
    exact h a

theorem twoArgs_windows (s : State) (f : Frame) {cmd : Byte → Byte → State → State × Response}
    (h : ∀ a b s', (cmd a b s').1.windows = s'.windows) : (s.commandFrame f (twoArgs f cmd)).windows = s.windows :=
  commandFrame_windows s f fun _ hg => by
    obtain ⟨a, b, rfl⟩ := mem_twoArgs hg
    exact h a b

theorem readWindowCommand_windows (cb wb : Byte) (s : State) : (readWindowCommand cb wb s).1.windows = s.windows := by
  unfold readWindowCommand
  split <;> rfl

theorem bindCommand_windows (mb cb : Byte) (s : State) : (bindCommand mb cb s).1.windows = s.windows := by
  unfold bindCommand
  split
  · split <;> rfl
  · rfl

theorem readBindingCommand_windows (mb : Byte) (s : State) : (readBindingCommand mb s).1.windows = s.windows := by
  unfold readBindingCommand
  split <;> rfl

theorem readStreamCommand_windows (mb : Byte) (s : State) : (readStreamCommand mb s).1.windows = s.windows := by
  unfold readStreamCommand
  split <;> rfl

theorem popFaultCommand_windows (s : State) : (popFaultCommand s).1.windows = s.windows := by
  unfold popFaultCommand
  split <;> rfl

theorem setDeadlineCommand_windows (v : Byte) (s : State) : (setDeadlineCommand v s).1.windows = s.windows := by
  unfold setDeadlineCommand
  split <;> rfl

theorem backClearCommand_windows (s : State) : (backClearCommand s).1.windows = s.windows := by
  unfold backClearCommand
  split
  · rfl
  · split <;> rfl

/-! ### Searches and answers -/

theorem searchCompletion_windows {s t : State} (h : exec .searchCompletion s = .next t) : t.windows = s.windows := by
  rw [exec_searchCompletion, execSearchCompletion] at h
  split at h
  · cases h; rfl
  · cases h; rfl
  · split at h
    · cases h; rfl
    · split at h <;> cases h
      · exact deliver_windows _ _
      · rfl

theorem repeatedSearchCompletion_windows {s t : State} (h : exec .repeatedSearchCompletion s = .next t) :
    t.windows = s.windows := by
  rw [exec_repeatedSearchCompletion, execRepeatedSearchCompletion] at h
  split at h
  · cases h; rfl
  · cases h; rfl
  · split at h <;> cases h
    · rfl
    · exact deliver_windows _ _

theorem answer_windows {s t : State} {tag : BitVec 3} {status : AnswerStatus} {data : Bytes8} {check : Byte}
    (h : exec (.answer tag status data check) s = .next t) : t.windows = s.windows := by
  rw [exec_answer, execAnswer] at h
  split at h
  · cases h; rfl
  · split at h <;> cases h
    · exact (keepsTables_answerTag _ _ _ _ _).windows
    · rfl

/-! ## The Window Table under every command -/

/-- Only COMMIT and PORST# change the Window Table (R8, R10). -/
theorem exec_windows {i : Instr} {s t : State} (hc : ∀ f, i ≠ .commit f) (hp : i ≠ .powerOnReset)
    (h : exec i s = .next t) : t.windows = s.windows := by
  cases i with
  | commit f => exact absurd rfl (hc f)
  | powerOnReset => exact absurd rfl hp
  | requestAcceptance m o =>
    rw [exec_requestAcceptance, execRequestAcceptance] at h
    split at h <;> cases h
    · exact acceptOffer_windows _ _ _
    · exact offerWaits_windows _ _ _
  | offerRemoval m =>
    rw [exec_offerRemoval, execOfferRemoval] at h
    split at h <;> cases h <;> rfl
  | searchBegin =>
    rw [exec_searchBegin, execSearchBegin] at h
    split at h <;> cases h <;> rfl
  | searchCompletion => exact searchCompletion_windows h
  | repeatedSearchCompletion => exact repeatedSearchCompletion_windows h
  | tagGrant k choice =>
    rw [exec_tagGrant, execTagGrant] at h
    split at h <;> cases h
    · exact (keepsTables_grant _ _ _).windows
    · rfl
  | answer tag status data check => exact answer_windows h
  | deadlineExpiry k =>
    rw [exec_deadlineExpiry, execDeadlineExpiry] at h
    split at h <;> cases h
    · rfl
    · rfl
    · exact expireTag_windows _ _ _
  | cleared =>
    rw [exec_cleared, execCleared] at h
    split at h
    · cases h; rfl
    · split at h <;> cases h <;> rfl
  | clearDeadlineExpiry =>
    rw [exec_clearDeadlineExpiry, execClearDeadlineExpiry] at h
    split at h <;> cases h <;> rfl
  | channelResetAssertion m =>
    cases h
    exact abandonRequest_windows _ _
  | channelResetRelease m => cases h; rfl
  | powerOnResetRelease => cases h; rfl
  | shortPeriod edges =>
    rw [exec_shortPeriod, execShortPeriod] at h
    split at h <;> cases h
    · exact frameEvent_windows _ _ _ fun _ => rfl
    · rfl
  | readPeriod bytes tail =>
    rw [exec_readPeriod, execReadPeriod] at h
    split at h <;> cases h
    · exact frameEvent_windows _ _ _ fun _ => rfl
    · rfl
  | badcmd code f =>
    rw [exec_badcmd, execBadcmd] at h
    split at h <;> cases h
    · exact frameEvent_windows _ _ _ fun _ => rfl
    · rfl
  | mselAssertion =>
    rw [exec_mselAssertion, execMselAssertion] at h
    split at h <;> cases h <;> rfl
  | status f => cases h; exact noArgs_windows s f fun _ => rfl
  | stage f =>
    cases h
    refine commandFrame_windows s f fun g hg s' => ?_
    obtain ⟨i, rfl⟩ := mem_stageArgs hg
    rfl
  | readWindow f => cases h; exact twoArgs_windows s f readWindowCommand_windows
  | bind f => cases h; exact twoArgs_windows s f bindCommand_windows
  | readBinding f => cases h; exact oneArg_windows s f readBindingCommand_windows
  | readStream f => cases h; exact oneArg_windows s f readStreamCommand_windows
  | popFault f => cases h; exact noArgs_windows s f popFaultCommand_windows
  | setDeadline f => cases h; exact oneArg_windows s f setDeadlineCommand_windows
  | backClear f => cases h; exact noArgs_windows s f backClearCommand_windows

/-- t has the Window Table of s, that of reset, or that of s with the staged image in a slot which the checks of
COMMIT let pass. -/
def WindowsStep (s t : State) : Prop :=
  t.windows = s.windows ∨ t.windows = State.reset.windows ∨
    ∃ c w, s.commitRefusal c w = none ∧ t.windows = s.windows.commit c w s.staging.image

/-- A COMMIT frame's whole effect on the Window Table. -/
theorem commitFrame_windowsStep (s : State) (f : Frame) :
    WindowsStep s (s.commandFrame f (twoArgs f commitCommand)) := by
  cases hp : s.takesPeriod with
  | false => exact .inl (by rw [State.commandFrame, frameEvent_of_not hp]; rfl)
  | true =>
    rw [commandFrame_of_takes hp, endPeriod_eq]
    cases hcmd : twoArgs f commitCommand with
    | none => exact .inl rfl
    | some g =>
      obtain ⟨cb, wb, rfl⟩ := mem_twoArgs hcmd
      rcases commitCommand_cases cb wb (s.afterPeriod (f.args.length + 1) f.tail s.link.buffer) with
        h | ⟨c, w, hr, h⟩
      · have hw := congrArg State.windows h
        exact .inl hw
      · have hw := congrArg State.windows h
        exact .inr (.inr ⟨c, w, hr, hw⟩)

/-- What a command does to the Window Table (R8, R10, R19). -/
theorem exec_windowsStep {i : Instr} {s t : State} (h : exec i s = .next t) : WindowsStep s t := by
  by_cases hp : i = .powerOnReset
  · subst hp
    cases h
    exact .inr (.inl rfl)
  · by_cases hc : ∃ f, i = .commit f
    · obtain ⟨f, rfl⟩ := hc
      cases h
      exact commitFrame_windowsStep s f
    · exact .inl (exec_windows (not_exists.1 hc) hp h)

/-! ## The law of the windows (R3, R17) -/

/-- Sharing a granule has no direction (R17). -/
theorem runsShare_comm (s l s' l' : BitVec 16) : runsShare s l s' l' = runsShare s' l' s l := Bool.and_comm _ _

/-- The law reads the Window Table alone. -/
theorem windowsSeparate_congr {s t : State} (h : t.windows = s.windows) : WindowsSeparate t ↔ WindowsSeparate s := by
  have hslot : t.slot = s.slot := by
    funext c w
    simp [State.slot, h]
  simp [WindowsSeparate, hslot]

/-- No overlap found: the staged run shares no granule with another valid window of the context (R17). -/
theorem runsShare_staged {s : State} {c : Ctx} {w v : WinIx} (h : ¬ s.stagedShares c w) (hv : v ≠ w)
    (hvalid : (s.slot c v).image.valid = true) :
    runsShare s.staging.image.start s.staging.image.lenM1 (s.slot c v).image.start (s.slot c v).image.lenM1 = false := by
  by_contra hs
  simp only [runsShare, Bool.not_eq_false, Bool.and_eq_true, decide_eq_true_eq] at hs
  exact h ⟨v, hv, hvalid, hs⟩

/-- A commit that passes the checks of BOUNDS and OVERLAP keeps the law (R16, R17). -/
theorem windowsSeparate_commit {s t : State} {c : Ctx} {w : WinIx} (hs : WindowsSeparate s)
    (hi : s.staging.image.valid = true → ¬ s.staging.image.runsPast ∧ ¬ s.stagedShares c w)
    (ht : t.windows = s.windows.commit c w s.staging.image) : WindowsSeparate t := by
  have hslot : ∀ c' w', t.slot c' w' =
      if c = c' ∧ w = w' then { image := s.staging.image, gen := (s.slot c w).gen + 1 } else s.slot c' w' := by
    intro c' w'
    unfold State.slot
    rw [ht, windowTable_commit_slot]
  intro c' u hu
  rw [hslot] at hu
  by_cases hc : c = c' ∧ w = u
  · obtain ⟨rfl, rfl⟩ := hc
    simp only [and_self, if_true] at hu
    obtain ⟨hb, ho⟩ := hi hu
    refine ⟨?_, fun v hv hvalid => ?_⟩
    · simpa [hslot] using (outOfBounds_iff _).not.2 hb
    · have hne : ¬ (c = c ∧ w = v) := fun h => hv h.2.symm
      rw [hslot c v, if_neg hne] at hvalid ⊢
      rw [hslot c w, if_pos ⟨rfl, rfl⟩, runsShare_comm]
      exact runsShare_staged ho hv hvalid
  · rw [if_neg hc] at hu
    rw [hslot c' u, if_neg hc]
    refine ⟨(hs c' u hu).1, fun v hv hvalid => ?_⟩
    by_cases hcv : c = c' ∧ w = v
    · obtain ⟨rfl, rfl⟩ := hcv
      rw [hslot c w, if_pos ⟨rfl, rfl⟩] at hvalid ⊢
      exact runsShare_staged (hi hvalid).2 hv.symm hu
    · rw [hslot c' v, if_neg hcv] at hvalid ⊢
      exact (hs c' u hu).2 v hv hvalid

/-- Every change a command makes to the Window Table keeps the law. -/
theorem windowsSeparate_of_step {s t : State} (hs : WindowsSeparate s) (h : WindowsStep s t) : WindowsSeparate t := by
  rcases h with h | h | ⟨c, w, hr, h⟩
  · exact (windowsSeparate_congr h).2 hs
  · exact (windowsSeparate_congr h).2 windowsSeparate_reset
  · obtain ⟨-, -, -, hi⟩ := commitRefusal_eq_none.1 hr
    exact windowsSeparate_commit hs hi h

/-- Settles O55: by what a command does to the Window Table. -/
theorem windowsStaySeparate : Obligations.WindowsStaySeparate := by
  unfold Obligations.WindowsStaySeparate
  intro s t hs h
  unfold step at h
  split at h
  case h_1 =>
    cases h
    exact hs
  case h_2 c rest _ => exact windowsSeparate_of_step (s := { s with pending := rest }) hs (exec_windowsStep h)

end Sys2Proof.Machine
end

section
/-! SUPPORT. The byte layouts of the link and the read commands: O45. -/

namespace Sys2Proof.Machine

/-! ## Byte layouts of the link (Tables 10-4, 10-5 and 10-7) -/

theorem flagByte_eq (valid readOk writeOk : Bool) (posting : Posting) :
    flagByte valid readOk writeOk posting =
      packed [(1, valid.toNat), (1, readOk.toNat), (1, writeOk.toNat), (1, if posting = .posted then 1 else 0),
        (4, 0)] := by
  cases posting <;> revert valid readOk writeOk <;> decide

/-- A window record as read (Table 10-4). -/
theorem windowBytes_eq (w : Window) :
    windowBytes w =
      [packed [(1, w.image.valid.toNat), (1, w.image.readOk.toNat), (1, w.image.writeOk.toNat),
        (1, if w.image.posting = .posted then 1 else 0), (4, 0)]] ++
      bigEndian 2 w.image.start.toNat ++ bigEndian 2 w.image.lenM1.toNat ++ bigEndian 3 w.image.base.toNat ++
        [w.gen] := by
  rw [windowBytes, flagByte_eq, bytes16_eq, bytes16_eq, bytes24_eq]

/-- The slot byte of a present stream record: the present bit, the context and the window index (Table 10-5). -/
theorem slotByte_eq (c : Ctx) (w : WinIx) :
    1#1 ++ BitVec.ofNat 3 c.val ++ BitVec.ofNat 4 w.val = packed [(1, 1), (3, c.val), (4, w.val)] := by
  revert c w
  decide

/-- A present stream record reads as its slot and the valid window it copies (R176, Table 10-5). -/
theorem streamBytes_some (r : StreamRec) :
    streamBytes (some r) =
      packed [(1, 1), (3, r.ctx.val), (4, r.win.index.val)] ::
        windowBytes
          { image := { valid := true, start := r.win.start, lenM1 := r.win.lenM1, base := r.win.base
                       readOk := r.win.readOk, writeOk := r.win.writeOk, posting := r.win.posting }
            gen := r.win.gen } := by
  rw [← slotByte_eq]
  rfl

/-- Byte 4 of STATUS in a drain: DRAINING, the kind, and the members remaining, at most 18 (Table 10-7). -/
theorem trackerByte_eq (kind : BitVec 1) {n : Nat} (hn : n ≤ 18) :
    1#1 ++ kind ++ 0#1 ++ BitVec.ofNat 5 n = packed [(1, 1), (1, kind.toNat), (1, 0), (5, n)] := by
  have hall : ∀ (k : BitVec 1) (i : Fin 19),
      1#1 ++ k ++ 0#1 ++ BitVec.ofNat 5 i.val = packed [(1, 1), (1, k.toNat), (1, 0), (5, i.val)] := by
    decide
  exact hall kind ⟨n, by omega⟩

/-- Bytes 4 and 5 of STATUS in a drain (Table 10-7). -/
theorem trackerBytes_draining (job : DrainJob) {members : List Member} (h : members.length ≤ 18) :
    trackerBytes (.draining job members) =
      [packed [(1, 1), (1, (targetKindBit job.target).toNat), (1, 0), (5, members.length)], targetCode job.target] := by
  rw [trackerBytes, trackerByte_eq _ h, targetByte_eq]

/-- Bytes 4 and 5 of STATUS (Table 10-7). -/
theorem trackerBytes_eq (s : State) (h : s.membersRemaining ≤ 18) :
    trackerBytes s.drain.state = match s.drain.state with
      | .idle => [0, 0]
      | .draining (.commit c w _) members =>
        [packed [(1, 1), (1, 0), (1, 0), (5, members.length)], targetCode (.commit c w)]
      | .draining (.bind m) members =>
        [packed [(1, 1), (1, 1), (1, 0), (5, members.length)], targetCode (.bind m)] := by
  unfold State.membersRemaining at h
  cases hd : s.drain.state with
  | idle => rfl
  | draining job members =>
    rw [hd] at h
    rw [trackerBytes_draining job h]
    cases job <;> rfl

/-- Bytes 6 and 7 of STATUS (Table 10-7). -/
theorem lastResultBytes_eq (last : Option Target) :
    lastResultBytes last = match last with
      | none => [0, 0]
      | some (.commit c w) => [packed [(2, 1), (6, 0)], targetCode (.commit c w)]
      | some (.bind m) => [packed [(2, 2), (6, 0)], targetCode (.bind m)] := by
  cases last with
  | none => rfl
  | some t => cases t <;> rw [lastResultBytes, targetByte_eq] <;> rfl

/-- Byte 8 of STATUS (Table 10-7). -/
theorem backByte_eq (b : BackState) (l : LastClear) :
    backByte b l = packed [(1, if b = .normal then 0 else 1), (5, 0), (2, match l with
      | .none => 0
      | .done => 1
      | .failed => 2)] := by
  cases b with
  | normal => cases l <;> rfl
  | clearing count =>
    rw [if_neg nofun]
    show backByte (.clearing 0) l = _
    cases l <;> rfl

theorem tagCode_eq (t : TagState) : tagCode t = (2, (tagBits t).toNat) := by
  cases t <;> rfl

/-- Four two-bit fields fill a byte. -/
theorem packed_four (a b c d : BitVec 2) :
    packed [(2, a.toNat), (2, b.toNat), (2, c.toNat), (2, d.toNat)] = a ++ b ++ c ++ d := by
  revert a b c d
  decide

/-- Bytes 9 and 10 of STATUS (Table 10-7). -/
theorem tagStateBytes_eq (s : State) :
    tagStateBytes s.port.tags =
      [packed [tagCode (s.tag 0).state, tagCode (s.tag 1).state, tagCode (s.tag 2).state, tagCode (s.tag 3).state],
        packed [tagCode (s.tag 4).state, tagCode (s.tag 5).state, (4, 0)]] := by
  have hlast : ∀ a b : BitVec 2, packed [(2, a.toNat), (2, b.toNat), (4, 0)] = a ++ b ++ 0#4 := by decide
  simp only [tagCode_eq, packed_four, hlast]
  rfl

/-- STATUS as read: each byte by its layout (R172, Table 10-7). -/
theorem statusBytes_eq (s : State) (h : s.membersRemaining ≤ 18) :
    statusBytes s =
      [BitVec.ofNat 8 s.log.records.length] ++ bigEndian 2 s.log.next.toNat ++
      (match s.drain.state with
        | .idle => [0, 0]
        | .draining (.commit c w _) members =>
          [packed [(1, 1), (1, 0), (1, 0), (5, members.length)], targetCode (.commit c w)]
        | .draining (.bind m) members =>
          [packed [(1, 1), (1, 1), (1, 0), (5, members.length)], targetCode (.bind m)]) ++
      (match s.drain.last with
        | none => [0, 0]
        | some (.commit c w) => [packed [(2, 1), (6, 0)], targetCode (.commit c w)]
        | some (.bind m) => [packed [(2, 2), (6, 0)], targetCode (.bind m)]) ++
      [packed [(1, if s.port.back = .normal then 0 else 1), (5, 0), (2, match s.port.lastClear with
        | .none => 0
        | .done => 1
        | .failed => 2)]] ++
      [packed [tagCode (s.tag 0).state, tagCode (s.tag 1).state, tagCode (s.tag 2).state, tagCode (s.tag 3).state],
        packed [tagCode (s.tag 4).state, tagCode (s.tag 5).state, (4, 0)]] ++
      [BitVec.ofNat 8 s.pwq.length, s.port.deadline] := by
  rw [statusBytes, bytes16_eq, trackerBytes_eq s h, lastResultBytes_eq, backByte_eq, tagStateBytes_eq]

/-! ## The read commands (R11, R136, R172, R174 to R176) -/

theorem status_answers {s : State} (h : s.judgesPeriod) :
    exec (.status ⟨[], 0⟩) s = .next (s.afterPeriod 1 0 (some { status := .done, result := statusBytes s })) :=
  exec_answers h (exec_status_frame s) fun _ => rfl

theorem readWindow_answers {s : State} (h : s.judgesPeriod) {c : Ctx} {w : WinIx} {cb wb : Byte}
    (hc : cb.toNat = c.val) (hw : wb.toNat = w.val) :
    exec (.readWindow ⟨[cb, wb], 0⟩) s =
      .next (s.afterPeriod 3 0 (some { status := .done, result := windowBytes (s.slot c w) })) :=
  exec_answers h (exec_readWindow_frame s cb wb) fun _ => readWindowCommand_eq hc hw _

theorem readBinding_answers {s : State} (h : s.judgesPeriod) {m : Master} {mb : Byte} (hm : mb.toNat = m.val) :
    exec (.readBinding ⟨[mb], 0⟩) s =
      .next (s.afterPeriod 2 0 (some { status := .done, result := [bindingByte (s.binding m)] })) :=
  exec_answers h (exec_readBinding_frame s mb) fun _ => readBindingCommand_eq hm _

theorem readStream_answers {s : State} (h : s.judgesPeriod) {m : Master} {mb : Byte} (hm : mb.toNat = m.val) :
    exec (.readStream ⟨[mb], 0⟩) s =
      .next (s.afterPeriod 2 0 (some { status := .done, result := streamBytes (s.stream m) })) :=
  exec_answers h (exec_readStream_frame s mb) fun _ => readStreamCommand_eq hm _

/-- Settles O45: each command's answer on a judged frame, and each byte layout. -/
theorem readCommandsChangeNothing : Obligations.ReadCommandsChangeNothing := by
  unfold Obligations.ReadCommandsChangeNothing
  refine ⟨fun s h => ⟨status_answers h, fun cb wb hr => ?_, fun c w cb wb => readWindow_answers h, fun mb hr => ⟨?_, ?_⟩,
    fun m mb hm => ⟨?_, readStream_answers h hm⟩⟩, windowBytes_eq, rfl, streamBytes_some, statusBytes_eq⟩
  · exact exec_answersBare h (exec_readWindow_frame s cb wb) rfl fun _ => readWindowCommand_range hr _
  · exact exec_answersBare h (exec_readBinding_frame s mb) rfl fun _ => readBindingCommand_range hr _
  · exact exec_answersBare h (exec_readStream_frame s mb) rfl fun _ => readStreamCommand_range hr _
  · rw [readBinding_answers h hm]
    cases s.binding m <;> rfl

end Sys2Proof.Machine
end

section
/-! SUPPORT. O10: the reply of a request with a failed part, and a stream hit that fails at acceptance. -/

namespace Sys2Proof.Machine

/-! ## The reply of a failed translation (R43, R59, R60) -/

/-- Without operations, a part that is neither DENIED nor UNMAPPED has status OK (R85). -/
theorem partFinal_of_translated {r : Request} {p : Part} (hops : r.ops = []) (h : p.status = .translated) :
    partFinal r p = .ok := by
  simp [partFinal, h, hops, opsStatus]

theorem partFinal_of_denied {p : Part} (h : p.status = .denied) (r : Request) : partFinal r p = .denied := by
  simp [partFinal, h]

theorem partFinal_of_unmapped {p : Part} (h : p.status = .unmapped) (r : Request) : partFinal r p = .unmapped := by
  simp [partFinal, h]

/-- A failed first part decides the reply (R59). -/
theorem replyStatus_of_first {r : Request} (h : partFinal r r.part1 ≠ .ok) : replyStatus r = partFinal r r.part1 := by
  unfold replyStatus
  split
  · contradiction
  · rfl

/-- Past a first part that is OK the second decides the reply (R59). -/
theorem replyStatus_of_second {r : Request} {p : Part} (h : partFinal r r.part1 = .ok) (h2 : r.part2 = some p) :
    replyStatus r = partFinal r p := by
  simp [replyStatus, h, h2]

/-- The part is DENIED or UNMAPPED, and st is the reply status that says so (R43). -/
def Part.failsWith (p : Part) (st : ReplyStatus) : Prop :=
  p.status = .denied ∧ st = .denied ∨ p.status = .unmapped ∧ st = .unmapped

theorem partFinal_of_failsWith {p : Part} {st : ReplyStatus} (h : p.failsWith st) (r : Request) :
    partFinal r p = st ∧ st ≠ .ok ∧ p.status ≠ .waiting ∧ p.status ≠ .translated := by
  rcases h with ⟨hp, rfl⟩ | ⟨hp, rfl⟩
  · simp [partFinal_of_denied hp, hp]
  · simp [partFinal_of_unmapped hp, hp]

/-- The lower-addressed failed part of the request failed with st (R59). -/
def Request.failsWith (r : Request) (st : ReplyStatus) : Prop :=
  r.part1.failsWith st ∨ r.part1.status = .translated ∧ ∃ p ∈ r.part2, p.failsWith st

theorem replyStatus_of_failsWith {r : Request} {st : ReplyStatus} (hops : r.ops = []) (h : r.failsWith st) :
    replyStatus r = st ∧ st ≠ .ok := by
  rcases h with h1 | ⟨h1, p, h2, hp⟩
  · obtain ⟨hf, hne, -, -⟩ := partFinal_of_failsWith h1 r
    rw [replyStatus_of_first (hf ▸ hne), hf]
    exact ⟨rfl, hne⟩
  · obtain ⟨hf, hne, -, -⟩ := partFinal_of_failsWith hp r
    rw [replyStatus_of_second (partFinal_of_translated hops h1) h2, hf]
    exact ⟨rfl, hne⟩

theorem not_all_translated_of_failsWith {r : Request} {st : ReplyStatus} (h : r.failsWith st) :
    r.parts.all (fun p => p.status = .translated) = false := by
  rw [List.all_eq_false]
  rcases h with h1 | ⟨-, p, h2, hp⟩
  · obtain ⟨-, -, -, hne⟩ := partFinal_of_failsWith h1 r
    exact ⟨r.part1, by simp [Request.parts], by simpa using hne⟩
  · obtain ⟨-, -, -, hne⟩ := partFinal_of_failsWith hp r
    rw [Option.mem_def] at h2
    exact ⟨p, by simp [Request.parts, h2], by simpa using hne⟩

theorem any_waiting_iff (r : Request) :
    r.parts.any (fun p => p.status = .waiting) = true ↔
      r.part1.status = .waiting ∨ ∃ p ∈ r.part2, p.status = .waiting := by
  simp [Request.parts]

/-- A reply other than OK carries no data (R60). -/
theorem composeReply_of_failed {r : Request} {st : ReplyStatus} (h : replyStatus r = st) (hne : st ≠ .ok) :
    composeReply r = { status := st, posted := false, data := Bytes8.zero } := by
  simp [composeReply, h, hne]

/-- The reply, field by field (R58, R61). -/
theorem replyRequest_eq (s : State) (m : Master) (x : Reply) :
    s.replyRequest m x = { s with
      records := s.records.set m none
      drain := s.drain.update fun _ => Member.afterReply m
      out := { s.out with replies := s.out.replies.set m (some x) } } := rfl

/-- A request whose last part is resolved, one of them failed, replies that part's status (R43, R53, R59, R60). -/
theorem completeTranslation_of_failsWith {s : State} {m : Master} {r : Request} {st : ReplyStatus} (hops : r.ops = [])
    (h2 : ∀ p ∈ r.part2, p.status ≠ .waiting) (h : r.failsWith st) :
    s.completeTranslation m r = s.replyRequest m { status := st, posted := false, data := Bytes8.zero } := by
  have hw : r.parts.any (fun p => p.status = .waiting) = false := by
    rw [← Bool.not_eq_true, any_waiting_iff]
    rintro (h1 | ⟨p, hp, hpw⟩)
    · rcases h with hf | ⟨ht, -⟩
      · obtain ⟨-, -, hne, -⟩ := partFinal_of_failsWith hf r
        exact hne h1
      · simp [h1] at ht
    · exact h2 p hp hpw
  obtain ⟨hst, hne⟩ := replyStatus_of_failsWith hops h
  rw [completeTranslation_of_failed hw (not_all_translated_of_failsWith h), composeReply_of_failed hst hne]

/-! ## A SECOND part past FFFFFFh (R25) -/

/-- The granule past the space gives the SECOND part no window (R25). -/
theorem beginSecond_of_past {s : State} {m : Master} {r : Request} (hr : s.record m = some r)
    (hg : granule2 r.addr r.sizeM1 = 65536) : s.beginSecond m = s.resolveSecond m none := by
  unfold State.beginSecond
  simp [hr, hg]

/-- A SECOND part without a window ends the translation with a reply: the FIRST part's DENIED, or UNMAPPED
(R43, R44, R59). -/
theorem resolveSecond_of_none {s : State} {m : Master} {r : Request} (hr : s.record m = some r) (hops : r.ops = [])
    {st : ReplyStatus} (h : r.part1.failsWith st ∨ r.part1.status = .translated ∧ st = .unmapped) :
    s.resolveSecond m none =
      (s.handIn (unmappedFault m r .second)).replyRequest m
        { status := st, posted := false, data := Bytes8.zero } := by
  have hfails : Request.failsWith { r with part2 := some (s.resolvePart r (secondPart r) none) } st := by
    rcases h with h1 | ⟨h1, rfl⟩
    · exact .inl h1
    · exact .inr ⟨h1, _, rfl, .inr ⟨rfl, rfl⟩⟩
  unfold State.resolveSecond
  simp only [hr]
  rw [completeTranslation_of_failsWith (r := { r with part2 := some (s.resolvePart r (secondPart r) none) }) hops _
    hfails, replyRequest_setRecord]
  · rfl
  · rintro p ⟨⟩
    exact nofun

/-! ## A stream hit at acceptance (R52) -/

/-- The first part's translation goes on with the window of the stream record (R30, R52). -/
theorem acceptOffer_of_hit {s : State} {m : Master} {o : Offer} {r : StreamRec} (hs : s.stream m = some r)
    (hb : s.binding m = some r.ctx) (hg : r.win.contains (granule1 o.addr)) :
    s.acceptOffer m o =
      ((s.takeOffer m o).setRecord m (some (newRequest o (s.channel m).serial r.ctx))).resolveFirst m (some r.win) := by
  unfold State.acceptOffer
  simp only [hb, streamHit_eq_some hs hg]

/-- A first part found through a window without the right is DENIED (R28). -/
theorem resolvePart_failsWith_denied {s : State} {r : Request} {w : WinCopy} (h : w.permits r.kind = false) (p : Part) :
    (s.resolvePart r p (some w)).failsWith .denied :=
  .inl ⟨by simp [State.resolvePart, h], rfl⟩

/-- A first part found through a window with the right is TRANSLATED (R27, R28). -/
theorem resolvePart_translated {s : State} {r : Request} {w : WinCopy} (h : w.permits r.kind = true) (p : Part) :
    (s.resolvePart r p (some w)).status = .translated := by
  simp [State.resolvePart, h]

/-- An ONLY part without the right ends the translation with a DENIED record and reply (R28, R43, R44). -/
theorem resolveFirst_of_only_denied {s : State} {m : Master} {r : Request} {w : WinCopy} (hr : s.record m = some r)
    (hops : r.ops = []) (h2 : r.part2 = none) (hl : resolvedLabel r.addr r.sizeM1 (some w) = .only)
    (hp : w.permits r.kind = false) :
    s.resolveFirst m (some w) =
      (s.handIn (deniedFault m r .only w.index)).replyRequest m
        { status := .denied, posted := false, data := Bytes8.zero } := by
  have hfault : resolutionFault m r .only (some w) = some (deniedFault m r .only w.index) := by
    simp [resolutionFault, hp]
  rw [resolveFirst_of_only hr hl, hfault, completeTranslation_of_failsWith (st := .denied), replyRequest_setRecord]
  · rfl
  · exact hops
  · simp [State.onlyFirst, h2]
  · exact .inl (resolvePart_failsWith_denied hp _)

/-- An access past FFFFFFh has a FIRST part, whatever the window (R25). -/
theorem resolvedLabel_of_past {a : LogAddr} {n : BitVec 3} (h : granule2 a n = 65536) (w : WinCopy) :
    resolvedLabel a n (some w) = .first := by
  have h1 : granule2 a n ≠ granule1 a := by
    unfold granule1
    omega
  simp [resolvedLabel, h, h ▸ h1]

/-- The first part of a request once a window was found for it as a FIRST part (R26 to R28). -/
def State.firstFound (s : State) (r : Request) (w : WinCopy) : Part :=
  s.resolvePart r { r.part1 with label := .first, lanes := partLanes .first r.addr r.sizeM1 } (some w)

/-- A FIRST part found through a window: the SECOND's translation begins beside it (R31). -/
theorem resolveFirst_firstFound {s : State} {m : Master} {r : Request} {w : WinCopy} (hr : s.record m = some r)
    (hl : resolvedLabel r.addr r.sizeM1 (some w) = .first) :
    s.resolveFirst m (some w) =
      State.beginSecond
        ((s.handInOption (resolutionFault m r .first (some w))).setRecord m
          (some { r with part1 := s.firstFound r w })) m :=
  resolveFirst_of_first hr hl

/-- By its right a FIRST part is TRANSLATED, so that the SECOND's UNMAPPED decides, or is DENIED itself (R28, R59). -/
theorem firstFound_outcome (s : State) (r : Request) (w : WinCopy) :
    (s.firstFound r w).failsWith (if w.permits r.kind then .unmapped else .denied) ∨
      (s.firstFound r w).status = .translated ∧
        (if w.permits r.kind then ReplyStatus.unmapped else .denied) = .unmapped := by
  cases hp : w.permits r.kind with
  | false => exact .inl (resolvePart_failsWith_denied hp _)
  | true => exact .inr ⟨resolvePart_translated hp _, rfl⟩

/-- A FIRST part of an access past FFFFFFh: its own DENIED record where the right is missing, the SECOND part's UNMAPPED
record, and the reply of the lower-addressed failed part (R25, R28, R43, R44, R59). -/
theorem resolveFirst_of_past {s : State} {m : Master} {r : Request} {w : WinCopy} (hr : s.record m = some r)
    (hops : r.ops = []) (hg : granule2 r.addr r.sizeM1 = 65536) :
    s.resolveFirst m (some w) =
      ((s.handInOption (resolutionFault m r .first (some w))).handIn (unmappedFault m r .second)).replyRequest m
        { status := if w.permits r.kind then .unmapped else .denied, posted := false, data := Bytes8.zero } := by
  have hset : ∀ (t : State) (x : Request), (t.setRecord m (some x)).record m = some x := fun t x => by
    simp [setRecord_record]
  rw [resolveFirst_firstFound hr (resolvedLabel_of_past hg w),
    beginSecond_of_past (r := { r with part1 := s.firstFound r w }) (hset _ _) hg,
    resolveSecond_of_none (r := { r with part1 := s.firstFound r w }) (hset _ _) hops (firstFound_outcome s r w)]
  exact replyRequest_setRecord
    ((s.handInOption (resolutionFault m r .first (some w))).handIn (unmappedFault m r .second)) m _ _

/-- The state after the accepted offer of an IDLE channel was refused with records of its parts (R44, R61). -/
theorem accepted_reply_eq {s : State} {m : Master} (hr : s.record m = none) (o : Offer) (x : Request) (l : FaultLog)
    (y : Reply) :
    State.replyRequest { (s.beginEvent.takeOffer m o).setRecord m (some x) with log := l } m y = { s with
      channels := s.takenChannels m o
      log := l
      drain := s.drain.update fun _ => Member.afterReply m
      out := sentReply m y } := by
  have hidle : s.records.set m none = s.records := congrArg State.records (setRecord_self hr)
  rw [replyRequest_eq]
  simp only [setRecord_records, takeOffer_records, beginEvent_records, Vector.set_set, hidle]
  rfl

/-- The log of an access past FFFFFFh: the FIRST part's DENIED record where the right is missing, then the SECOND's
UNMAPPED record (R44). -/
theorem deniedUnless_handIn (l : FaultLog) (m : Master) (r : Request) (label : Label) (w : WinCopy) (b : FaultBody) :
    (deniedUnless l m r label w).handIn b =
      if w.permits r.kind then l.handIn b else (l.handIn (deniedFault m r label w.index)).handIn b :=
  apply_ite (FaultLog.handIn · b) _ _ _

/-- An accepted offer that hits the stream record has its first part resolved with the record's window (R30, R52). -/
theorem exec_accept_hit {s : State} {m : Master} {o : Offer} {r : StreamRec} (ha : s.mayAccept m)
    (hs : s.stream m = some r) (hb : s.binding m = some r.ctx) (hg : r.win.contains (granule1 o.addr)) :
    exec (.requestAcceptance m o) s = .next (State.resolveFirst
      ((s.beginEvent.takeOffer m o).setRecord m (some (newRequest o (s.channel m).serial r.ctx))) m (some r.win)) := by
  rw [exec_accept ha, acceptOffer_of_hit (s := s.beginEvent) hs hb hg]
  rfl

/-- Settles O10: an accepted hit fails as an ONLY part or past FFFFFFh; a failed translation replies; a WAITING one
stays. -/
theorem failureAtAcceptance : Obligations.FailureAtAcceptance := by
  unfold Obligations.FailureAtAcceptance
  refine ⟨?_, fun s m r st hops h2 hf => ?_, fun s m r hw => ?_⟩
  · rintro m o s r label denied unmapped ha hs hb hg rfl rfl
    have hrec : ((s.beginEvent.takeOffer m o).setRecord m (some (newRequest o (s.channel m).serial r.ctx))).record m =
        some (newRequest o (s.channel m).serial r.ctx) := by
      simp [setRecord_record]
    rw [exec_accept_hit ha hs hb hg]
    obtain ⟨-, -, -, hidle⟩ := ha
    refine ⟨fun hin hlast hl hp => ?_, fun hpast hl => ?_⟩
    · subst hl
      have hlabel : resolvedLabel o.addr o.sizeM1 (some r.win) = .only := resolvedLabel_eq_only hlast (by omega)
      rw [resolveFirst_of_only_denied hrec rfl rfl hlabel hp]
      exact congrArg Host.Outcome.next (accepted_reply_eq hidle o _ _ _)
    · subst hl
      have hg2 : granule2 o.addr o.sizeM1 = 65536 := by
        unfold granule2
        omega
      rw [resolveFirst_of_past hrec rfl hg2, handInOption_deniedUnless]
      refine congrArg Host.Outcome.next ((accepted_reply_eq hidle o _ (FaultLog.handIn _ _) _).trans ?_)
      rw [deniedUnless_handIn]
      rfl
  · rw [completeTranslation_of_failsWith hops h2 (or_assoc.2 hf), replyRequest_eq]
  · exact completeTranslation_of_waiting ((any_waiting_iff r).2 hw)

end Sys2Proof.Machine
end

section
/-! SUPPORT. What a command can do, said once: every step is one `Event` between two changes that no law reads. -/

namespace Sys2Proof.Machine

/-- From s to t nothing changes that a law of `Safe` reads, but that of PORST#: messages, the link, the Staging Record,
the channels' hold-off and serial counters, the deadline value, the last-clear result and the queue of commands may
change, and PORST# may be released. -/
structure Quiet (s t : State) : Prop where
  windows : t.windows = s.windows
  bindings : t.bindings = s.bindings
  streams : t.streams = s.streams
  waitList : t.waitList = s.waitList
  engine : t.engine = s.engine
  crst : ∀ m, (t.channel m).crst = (s.channel m).crst
  records : t.records = s.records
  pwq : t.pwq = s.pwq
  nextEntry : t.nextEntry = s.nextEntry
  tags : t.port.tags = s.port.tags
  back : t.port.back = s.port.back
  drain : t.drain = s.drain
  log : t.log = s.log
  porst : t.porst = true → s.porst = true

theorem Quiet.refl (s : State) : Quiet s s :=
  ⟨rfl, rfl, rfl, rfl, rfl, fun _ => rfl, rfl, rfl, rfl, rfl, rfl, rfl, rfl, id⟩

theorem Quiet.trans {s t u : State} (h : Quiet s t) (k : Quiet t u) : Quiet s u :=
  ⟨k.windows.trans h.windows, k.bindings.trans h.bindings, k.streams.trans h.streams, k.waitList.trans h.waitList,
    k.engine.trans h.engine, fun m => (k.crst m).trans (h.crst m), k.records.trans h.records, k.pwq.trans h.pwq,
    k.nextEntry.trans h.nextEntry, k.tags.trans h.tags, k.back.trans h.back, k.drain.trans h.drain, k.log.trans h.log,
    fun hp => h.porst (k.porst hp)⟩

theorem quiet_beginEvent (s : State) : Quiet s s.beginEvent :=
  ⟨rfl, rfl, rfl, rfl, rfl, fun _ => rfl, rfl, rfl, rfl, rfl, rfl, rfl, rfl, id⟩

theorem quiet_endPeriod (s : State) (n k : Nat) : Quiet s (s.endPeriod n k) :=
  ⟨rfl, rfl, rfl, rfl, rfl, fun _ => rfl, rfl, rfl, rfl, rfl, rfl, rfl, rfl, id⟩

theorem quiet_setBuffer (s : State) (r : Option Response) : Quiet s (s.setBuffer r) :=
  ⟨rfl, rfl, rfl, rfl, rfl, fun _ => rfl, rfl, rfl, rfl, rfl, rfl, rfl, rfl, id⟩

/-- A channel written with its CRSTm# as it was. -/
theorem quiet_setChannel {s : State} {m : Master} {c : Channel} (h : c.crst = (s.channel m).crst) :
    Quiet s (s.setChannel m c) := by
  refine ⟨rfl, rfl, rfl, rfl, rfl, fun m' => ?_, rfl, rfl, rfl, rfl, rfl, rfl, rfl, id⟩
  rw [setChannel_channel]
  split
  · next e => rw [h, e]
  · rfl

theorem quiet_offerWaits (s : State) (m : Master) (o : Offer) : Quiet s (s.offerWaits m o) := by
  unfold State.offerWaits
  split
  · exact .refl s
  · exact quiet_setChannel rfl

/-- What happens in one step without PORST#, up to `Quiet` changes before and after it. -/
inductive Event (s : State) : State → Prop
  | none : Event s s
  | accept (m : Master) (o : Offer) (h : s.mayAccept m) : Event s (s.acceptOffer m o)
  | searchBegins (l : Lookup) (rest : List Lookup) (hi : s.engine = .idle) (hw : s.waitList = l :: rest) :
      Event s { s with
        waitList := rest
        engine := .searching { lookup := l, captured := s.version l.ctx, abandoned := false } }
  | searchDiscarded (v : Served) (he : s.engine = .searching v ∨ s.engine = .repeating v) (ha : v.abandoned = true) :
      Event s { s with engine := .idle }
  | searchRepeats (v : Served) (he : s.engine = .searching v) (ha : v.abandoned = false) :
      Event s { s with engine := .repeating { v with captured := s.version v.lookup.ctx } }
  | searchDelivers (v : Served) (he : s.engine = .searching v ∨ s.engine = .repeating v) (ha : v.abandoned = false) :
      Event s (State.deliver { s with engine := .idle } v.lookup)
  | grant (k : TagNo) (choice : OpChoice) (hf : (s.tag k).state = .free) : Event s (s.grant k choice)
  | answer (k : TagNo) (status : AnswerStatus) (data : Bytes8) (check : Byte) :
      Event s (s.answerTag k status data check)
  | expire (k : TagNo) (l : LiveWork) (hl : (s.tag k).state = .live l) : Event s (s.expireTag k l)
  | cleared : Event s { s with port := { s.port with
      tags := Vector.ofFn fun k : TagNo => (s.tag k).release, back := .normal, lastClear := .done } }
  | clearFails : Event s { s with port := { s.port with back := .normal, lastClear := .failed } }
  | clearStarts (h : s.anyLive = false) : Event s s.startClear
  | channelReset (m : Master) : Event s (s.assertChannelReset m)
  | channelRelease (m : Master) : Event s (s.setChannel m { s.channel m with crst := false })
  | commit (c : Ctx) (w : WinIx) (h : s.commitRefusal c w = Option.none) : Event s (s.commitEvent c w)
  | bind (m : Master) (c : Option Ctx) (h : s.draining = false) : Event s (s.bindEvent m c)
  | popFault (r : FaultRecord) (rest : List FaultRecord) (h : s.log.records = r :: rest) :
      Event s { s with log := { s.log with records := rest } }

/-- A step: an event, with changes before and after it that no law reads. -/
def Happens (s t : State) : Prop := ∃ s' t', Quiet s s' ∧ Event s' t' ∧ Quiet t' t

theorem Quiet.happens {s t : State} (h : Quiet s t) : Happens s t := ⟨s, s, .refl s, .none, h⟩

/-- An event that follows what every command begins with. -/
theorem Event.happens {s t : State} (h : Event s.beginEvent t) : Happens s t :=
  ⟨s.beginEvent, t, quiet_beginEvent s, h, .refl t⟩

/-! ## The frame commands -/

/-- The frame event of a period does what its effect does. -/
theorem frameEvent_happens (s : State) (n k : Nat) {effect : State → State} (h : ∀ s', Happens s' (effect s')) :
    Happens s (s.frameEvent n k effect) := by
  have hq := (quiet_beginEvent s).trans (quiet_endPeriod s.beginEvent n k)
  unfold State.frameEvent
  split
  · obtain ⟨u, v, hu, he, hv⟩ := h (s.beginEvent.endPeriod n k)
    exact ⟨u, v, hq.trans hu, he, hv⟩
  · exact hq.happens

/-- A command frame does what its command does, if its length is right. -/
theorem commandFrame_happens (s : State) (f : Frame) {cmd : Option (State → State × Response)}
    (h : ∀ g ∈ cmd, ∀ s', Happens s' (g s').1) : Happens s (s.commandFrame f cmd) := by
  refine frameEvent_happens s _ _ fun s' => ?_
  cases cmd with
  | none => exact (quiet_setBuffer _ _).happens
  | some g =>
    obtain ⟨u, v, hu, he, hv⟩ := h g rfl s'
    exact ⟨u, v, hu, he, hv.trans (quiet_setBuffer _ _)⟩

theorem noArgs_happens (s : State) (f : Frame) {cmd : State → State × Response} (h : ∀ s', Happens s' (cmd s').1) :
    Happens s (s.commandFrame f (noArgs f cmd)) :=
  commandFrame_happens s f fun _ hg => mem_noArgs hg ▸ h

theorem oneArg_happens (s : State) (f : Frame) {cmd : Byte → State → State × Response}
    (h : ∀ a s', Happens s' (cmd a s').1) : Happens s (s.commandFrame f (oneArg f cmd)) :=
  commandFrame_happens s f fun _ hg => by
    obtain ⟨a, rfl⟩ := mem_oneArg hg
    exact h a

theorem twoArgs_happens (s : State) (f : Frame) {cmd : Byte → Byte → State → State × Response}
    (h : ∀ a b s', Happens s' (cmd a b s').1) : Happens s (s.commandFrame f (twoArgs f cmd)) :=
  commandFrame_happens s f fun _ hg => by
    obtain ⟨a, b, rfl⟩ := mem_twoArgs hg
    exact h a b

theorem commitCommand_happens (cb wb : Byte) (s : State) : Happens s (commitCommand cb wb s).1 := by
  rcases commitCommand_cases cb wb s with h | ⟨c, w, hr, h⟩
  · rw [h]
    exact (Quiet.refl s).happens
  · rw [h]
    exact ⟨s, _, .refl s, .commit c w hr, .refl _⟩

theorem bindCommand_happens (mb cb : Byte) (s : State) : Happens s (bindCommand mb cb s).1 := by
  unfold bindCommand
  split
  · split
    · exact (Quiet.refl s).happens
    · next h => exact ⟨s, _, .refl s, .bind _ _ (by simpa using h), .refl _⟩
  · exact (Quiet.refl s).happens

theorem readWindowCommand_happens (cb wb : Byte) (s : State) : Happens s (readWindowCommand cb wb s).1 := by
  unfold readWindowCommand
  split <;> exact (Quiet.refl s).happens

theorem readBindingCommand_happens (mb : Byte) (s : State) : Happens s (readBindingCommand mb s).1 := by
  unfold readBindingCommand
  split <;> exact (Quiet.refl s).happens

theorem readStreamCommand_happens (mb : Byte) (s : State) : Happens s (readStreamCommand mb s).1 := by
  unfold readStreamCommand
  split <;> exact (Quiet.refl s).happens

theorem popFaultCommand_happens (s : State) : Happens s (popFaultCommand s).1 := by
  unfold popFaultCommand
  split
  · exact (Quiet.refl s).happens
  · next r rest h => exact ⟨s, _, .refl s, .popFault r rest h, .refl _⟩

theorem setDeadlineCommand_happens (v : Byte) (s : State) : Happens s (setDeadlineCommand v s).1 := by
  unfold setDeadlineCommand
  split
  · exact (Quiet.refl s).happens
  · exact Quiet.happens ⟨rfl, rfl, rfl, rfl, rfl, fun _ => rfl, rfl, rfl, rfl, rfl, rfl, rfl, rfl, id⟩

theorem backClearCommand_happens (s : State) : Happens s (backClearCommand s).1 := by
  unfold backClearCommand
  split
  · exact (Quiet.refl s).happens
  · next h =>
    split
    · exact (Quiet.refl s).happens
    · exact ⟨s, _, .refl s, .clearStarts (by simpa using h), .refl _⟩

theorem stageCommand_happens (i : Image) (s : State) : Happens s (stageCommand i s).1 :=
  Quiet.happens ⟨rfl, rfl, rfl, rfl, rfl, fun _ => rfl, rfl, rfl, rfl, rfl, rfl, rfl, rfl, id⟩

/-! ## Searches, answers and clears -/

theorem searchCompletion_happens {s t : State} (h : exec .searchCompletion s = .next t) : Happens s t := by
  rw [exec_searchCompletion, execSearchCompletion] at h
  split at h
  · cases h
    exact (quiet_beginEvent s).happens
  · cases h
    exact (quiet_beginEvent s).happens
  · next v he =>
    split at h
    · next ha =>
      cases h
      exact (Event.searchDiscarded (s := s.beginEvent) v (.inl he) ha).happens
    · next ha =>
      rw [Bool.not_eq_true] at ha
      split at h <;> cases h
      · exact (Event.searchDelivers (s := s.beginEvent) v (.inl he) ha).happens
      · exact (Event.searchRepeats (s := s.beginEvent) v he ha).happens

theorem repeatedSearchCompletion_happens {s t : State} (h : exec .repeatedSearchCompletion s = .next t) :
    Happens s t := by
  rw [exec_repeatedSearchCompletion, execRepeatedSearchCompletion] at h
  split at h
  · cases h
    exact (quiet_beginEvent s).happens
  · cases h
    exact (quiet_beginEvent s).happens
  · next v he =>
    split at h <;> cases h
    · next ha => exact (Event.searchDiscarded (s := s.beginEvent) v (.inr he) ha).happens
    · next ha => exact (Event.searchDelivers (s := s.beginEvent) v (.inr he) (by simpa using ha)).happens

theorem answer_happens {s t : State} {tag : BitVec 3} {status : AnswerStatus} {data : Bytes8} {check : Byte}
    (h : exec (.answer tag status data check) s = .next t) : Happens s t := by
  rw [exec_answer, execAnswer] at h
  split at h
  · cases h
    exact (quiet_beginEvent s).happens
  · split at h <;> cases h
    · exact (Event.answer (s := s.beginEvent) _ status data check).happens
    · exact (quiet_beginEvent s).happens

theorem cleared_happens {s t : State} (h : exec .cleared s = .next t) : Happens s t := by
  rw [exec_cleared, execCleared] at h
  split at h
  · cases h
    exact (quiet_beginEvent s).happens
  · split at h <;> cases h
    · exact (quiet_beginEvent s).happens
    · exact (Event.cleared (s := s.beginEvent)).happens

/-! ## Every command -/

/-- What a command but POWER_ON_RESET does is an event. -/
theorem exec_happens {i : Instr} {s t : State} (hi : i ≠ .powerOnReset) (h : exec i s = .next t) : Happens s t := by
  cases i with
  | requestAcceptance m o =>
    by_cases ha : s.mayAccept m
    · rw [exec_accept ha] at h
      cases h
      exact (Event.accept (s := s.beginEvent) m o ha).happens
    · rw [exec_wait ha] at h
      cases h
      exact ((quiet_beginEvent s).trans (quiet_offerWaits _ _ _)).happens
  | offerRemoval m =>
    rw [exec_offerRemoval, execOfferRemoval] at h
    split at h <;> cases h
    · exact ((quiet_beginEvent s).trans
        (quiet_setChannel (c := { s.channel m with offer := none, taken := false }) rfl)).happens
    · exact (quiet_beginEvent s).happens
  | searchBegin =>
    rw [exec_searchBegin, execSearchBegin] at h
    split at h <;> cases h
    · next hi hw => exact (Event.searchBegins (s := s.beginEvent) _ _ hi hw).happens
    · exact (quiet_beginEvent s).happens
  | searchCompletion => exact searchCompletion_happens h
  | repeatedSearchCompletion => exact repeatedSearchCompletion_happens h
  | tagGrant k choice =>
    rw [exec_tagGrant, execTagGrant] at h
    split at h <;> cases h
    · next hf => exact (Event.grant (s := s.beginEvent) k choice hf).happens
    · exact (quiet_beginEvent s).happens
  | answer tag status data check => exact answer_happens h
  | deadlineExpiry k =>
    rw [exec_deadlineExpiry, execDeadlineExpiry] at h
    split at h <;> cases h
    · exact (quiet_beginEvent s).happens
    · exact (quiet_beginEvent s).happens
    · next l hl => exact (Event.expire (s := s.beginEvent) k l hl).happens
  | cleared => exact cleared_happens h
  | clearDeadlineExpiry =>
    rw [exec_clearDeadlineExpiry, execClearDeadlineExpiry] at h
    split at h <;> cases h
    · exact (quiet_beginEvent s).happens
    · exact (Event.clearFails (s := s.beginEvent)).happens
  | channelResetAssertion m =>
    cases h
    exact (Event.channelReset (s := s.beginEvent) m).happens
  | channelResetRelease m =>
    cases h
    exact (Event.channelRelease (s := s.beginEvent) m).happens
  | powerOnReset => exact (hi rfl).elim
  | powerOnResetRelease =>
    cases h
    exact Quiet.happens ⟨rfl, rfl, rfl, rfl, rfl, fun _ => rfl, rfl, rfl, rfl, rfl, rfl, rfl, rfl, nofun⟩
  | shortPeriod edges =>
    rw [exec_shortPeriod, execShortPeriod] at h
    split at h <;> cases h
    · exact frameEvent_happens s _ _ fun s' => (Quiet.refl s').happens
    · exact (quiet_beginEvent s).happens
  | readPeriod bytes tail =>
    rw [exec_readPeriod, execReadPeriod] at h
    split at h <;> cases h
    · exact frameEvent_happens s _ _ fun s' => (quiet_setBuffer s' _).happens
    · exact (quiet_beginEvent s).happens
  | badcmd code f =>
    rw [exec_badcmd, execBadcmd] at h
    split at h <;> cases h
    · exact frameEvent_happens s _ _ fun s' => (quiet_setBuffer s' _).happens
    · exact (quiet_beginEvent s).happens
  | mselAssertion =>
    rw [exec_mselAssertion, execMselAssertion] at h
    split at h <;> cases h
    · exact Quiet.happens ⟨rfl, rfl, rfl, rfl, rfl, fun _ => rfl, rfl, rfl, rfl, rfl, rfl, rfl, rfl, id⟩
    · exact (quiet_beginEvent s).happens
    · exact (quiet_beginEvent s).happens
  | status f => cases h; exact noArgs_happens s f fun s' => (Quiet.refl s').happens
  | stage f =>
    cases h
    refine commandFrame_happens s f fun g hg s' => ?_
    obtain ⟨i, rfl⟩ := mem_stageArgs hg
    exact stageCommand_happens i s'
  | commit f => cases h; exact twoArgs_happens s f commitCommand_happens
  | readWindow f => cases h; exact twoArgs_happens s f readWindowCommand_happens
  | bind f => cases h; exact twoArgs_happens s f bindCommand_happens
  | readBinding f => cases h; exact oneArg_happens s f readBindingCommand_happens
  | readStream f => cases h; exact oneArg_happens s f readStreamCommand_happens
  | popFault f => cases h; exact noArgs_happens s f popFaultCommand_happens
  | setDeadline f => cases h; exact oneArg_happens s f setDeadlineCommand_happens
  | backClear f => cases h; exact noArgs_happens s f backClearCommand_happens

/-- A step is PORST#, or an event. -/
theorem step_happens {s t : State} (h : step s = .next t) :
    (∃ rest, execPowerOnReset { s with pending := rest } = .next t) ∨ Happens s t := by
  unfold step at h
  split at h
  case h_1 =>
    cases h
    exact .inr (Quiet.refl s).happens
  case h_2 c rest _ =>
    by_cases hi : c = .powerOnReset
    · subst hi
      exact .inl ⟨rest, h⟩
    · obtain ⟨u, v, hu, he, hv⟩ := exec_happens hi h
      exact .inr ⟨u, v, ⟨hu.windows, hu.bindings, hu.streams, hu.waitList, hu.engine, hu.crst, hu.records, hu.pwq,
        hu.nextEntry, hu.tags, hu.back, hu.drain, hu.log, hu.porst⟩, he, hv⟩

/-- A law that holds after PORST#, reads only what `Quiet` changes leave, and that every event keeps, is kept by every
step. -/
theorem law_of_step {P : State → Prop} (hq : ∀ {s t : State}, Quiet s t → P s → P t)
    (he : ∀ {s t : State}, Event s t → P s → P t) (hp : ∀ {s t : State}, execPowerOnReset s = .next t → P t)
    {s t : State} (hs : P s) (h : step s = .next t) : P t := by
  rcases step_happens h with ⟨rest, hr⟩ | ⟨u, v, hu, hv, ht⟩
  · exact hp hr
  · exact hq ht (he hv (hq hu hs))

end Sys2Proof.Machine
end

section
/-! SUPPORT. The law of the stream records: O56. -/

namespace Sys2Proof.Machine

/-- The law of the stream records reads the Window Table, the stream records and the bindings alone. -/
theorem streamsCurrent_congr {s t : State} (hw : t.windows = s.windows) (hs : t.streams = s.streams)
    (hb : t.bindings = s.bindings) (h : StreamsCurrent s) : StreamsCurrent t := by
  unfold StreamsCurrent State.slot State.stream State.binding
  rw [hw, hs, hb]
  exact h

theorem KeepsTables.streamsCurrent {s t : State} (k : KeepsTables s t) (h : StreamsCurrent s) : StreamsCurrent t :=
  streamsCurrent_congr k.windows k.streams k.bindings h

theorem Quiet.streamsCurrent {s t : State} (k : Quiet s t) (h : StreamsCurrent s) : StreamsCurrent t :=
  streamsCurrent_congr k.windows k.streams k.bindings h

theorem keepsTables_joinWaitList (s : State) (l : Lookup) : KeepsTables s (s.joinWaitList l) :=
  ⟨rfl, rfl, rfl, rfl, rfl, rfl, rfl, rfl, rfl⟩

/-- Once the offer is taken, its acceptance leaves the tables (R47, R49). -/
theorem keepsTables_acceptOffer (s : State) (m : Master) (o : Offer) :
    KeepsTables (s.takeOffer m o) (s.acceptOffer m o) := by
  unfold State.acceptOffer
  dsimp only
  split
  · exact ((keepsPort_handIn _ _).trans (keepsPort_sendReply _ _ _)).toKeepsTables
  · have hset := fun r => (keepsPort_setRecord (s.takeOffer m o) m r).toKeepsTables
    split
    · exact (hset _).trans (keepsTables_resolveFirst _ _ _)
    · exact (hset _).trans (keepsTables_joinWaitList _ _)

/-- A delivery changes the tables by the stream record it loads alone (R32). -/
theorem deliver_tables (s : State) (l : Lookup) :
    KeepsTables (s.loadStream l (s.findWindow l.ctx l.granule.toNat)) (s.deliver l) := by
  unfold State.deliver
  dsimp only
  split
  · exact keepsTables_resolveFirst _ _ _
  · exact keepsTables_resolveFirst _ _ _
  · exact (keepsPort_resolveSecond _ _ _).toKeepsTables

/-- A search finds a valid window as it stands in the Window Table (R37). -/
theorem findWindow_current {s : State} {c : Ctx} {g : Nat} {x : WinCopy} (h : s.findWindow c g = some x) :
    (s.slot c x.index).image.valid = true ∧ x = (s.slot c x.index).copy x.index := by
  unfold State.findWindow at h
  obtain ⟨w, hw, rfl⟩ := Option.map_eq_some_iff.1 h
  have hcov := (covers_iff s c w g).1 (by simpa using List.find?_some hw)
  exact ⟨hcov.1, rfl⟩

/-- The window that a search found is loaded for a master bound to its context (R32). -/
theorem streamsCurrent_loadStream {s : State} (h : StreamsCurrent s) (l : Lookup) (g : Nat) :
    StreamsCurrent (s.loadStream l (s.findWindow l.ctx g)) := by
  cases hf : s.findWindow l.ctx g with
  | none => exact h
  | some x =>
    obtain ⟨hv, hx⟩ := findWindow_current hf
    unfold State.loadStream
    dsimp only
    split
    · next hb =>
      intro m r hr
      rw [setStream_stream] at hr
      split at hr
      · next e =>
        cases hr
        exact ⟨hv, hx, e ▸ hb⟩
      · exact h m r hr
    · exact h

/-- A stream record that becomes absent keeps the law, whatever the binding becomes (R33, R41, R137). -/
theorem streamsCurrent_setStream_none {s t : State} {m : Master} (h : StreamsCurrent s) (hw : t.windows = s.windows)
    (hs : t.streams = s.streams.set m none) (hb : ∀ m', m ≠ m' → t.binding m' = s.binding m') : StreamsCurrent t := by
  intro m' r hr
  have hstream : t.stream m' = if m = m' then none else s.stream m' := by
    rw [← setStream_stream]
    simp [State.stream, hs]
  rw [hstream] at hr
  split at hr
  · exact nomatch hr
  · next hne =>
    obtain ⟨hv, hx, hbind⟩ := h m' r hr
    have hslot : t.slot = s.slot := by
      funext c w
      simp [State.slot, hw]
    rw [hslot, hb m' hne]
    exact ⟨hv, hx, hbind⟩

theorem streamsCurrent_bindEvent {s : State} (h : StreamsCurrent s) (m : Master) (c : Option Ctx) :
    StreamsCurrent (s.bindEvent m c) := by
  refine streamsCurrent_setStream_none (m := m) h rfl rfl fun m' hne => ?_
  show (s.setBinding m c).binding m' = _
  rw [setBinding_binding, if_neg hne]

/-- The lookup wait list, the engine and the stream record after CRSTm#, and the rest as it was, before the request is
abandoned (R33, R41, R62). -/
theorem assertChannelReset_eq (s : State) (m : Master) :
    s.assertChannelReset m = State.abandonRequest { s with
      channels := s.channels.set m { s.channel m with crst := true }
      streams := s.streams.set m none
      waitList := s.waitList.filter (·.master ≠ m)
      engine := s.engine.abandon m } m := rfl

/-- An abandoned request leaves the tables (R62). -/
theorem keepsTables_abandonRequest (s : State) (m : Master) : KeepsTables s (s.abandonRequest m) := by
  cases hr : s.record m with
  | none => rw [abandonRequest_of_none hr]; exact .refl s
  | some r => rw [abandonRequest_of_some hr]; exact ⟨rfl, rfl, rfl, rfl, rfl, rfl, rfl, rfl, rfl⟩

theorem streamsCurrent_assertChannelReset {s : State} (h : StreamsCurrent s) (m : Master) :
    StreamsCurrent (s.assertChannelReset m) := by
  rw [assertChannelReset_eq]
  refine (keepsTables_abandonRequest _ m).streamsCurrent ?_
  exact streamsCurrent_setStream_none (m := m) h rfl rfl fun _ _ => rfl

/-- The slots after a commit event: the committed one replaced, every other as it was (R19). -/
theorem commitEvent_slot (s : State) (c c' : Ctx) (w w' : WinIx) :
    (s.commitEvent c w).slot c' w' =
      if c = c' ∧ w = w' then { image := s.staging.image, gen := (s.slot c w).gen + 1 } else s.slot c' w' := by
  rw [commitEvent_eq]
  exact windowTable_commit_slot s.windows c c' w w' s.staging.image

/-- A commit drops the stream records of the slot it replaces, and no other slot changes (R19, R20). -/
theorem streamsCurrent_commitEvent {s : State} (h : StreamsCurrent s) (c : Ctx) (w : WinIx) :
    StreamsCurrent (s.commitEvent c w) := by
  intro m r hr
  have hstream : (s.commitEvent c w).stream m = dropNamed c w (s.stream m) := by
    simp [State.commitEvent, State.beginDrain, State.stream]
  rw [hstream, dropNamed_eq_filter, Option.mem_filter_iff] at hr
  obtain ⟨hr, hne⟩ := hr
  have hother : ¬ (c = r.ctx ∧ w = r.win.index) := by
    rintro ⟨rfl, rfl⟩
    simp at hne
  rw [commitEvent_slot, if_neg hother]
  exact h m r hr

theorem streamsCurrent_powerOn {s t : State} (h : execPowerOnReset s = .next t) : StreamsCurrent t := by
  cases h
  exact streamsCurrent_reset

/-- Every event keeps the law: a delivery loads a current window for a bound master, a commit drops what it makes
old (R33). -/
theorem Event.streamsCurrent {s t : State} (h : Event s t) (hs : StreamsCurrent s) : StreamsCurrent t := by
  cases h with
  | none => exact hs
  | accept m o =>
    exact (keepsTables_acceptOffer s m o).streamsCurrent (streamsCurrent_congr (s := s) rfl rfl rfl hs)
  | searchBegins | searchDiscarded | searchRepeats | cleared | clearFails | clearStarts | channelRelease | popFault =>
    exact hs
  | searchDelivers v =>
    exact (deliver_tables _ _).streamsCurrent (streamsCurrent_loadStream (s := { s with engine := .idle }) hs _ _)
  | grant k choice => exact (keepsTables_grant s k choice).streamsCurrent hs
  | answer k status data check => exact (keepsTables_answerTag s k status data check).streamsCurrent hs
  | expire k l => exact (expireTag_keeps s k l).streamsCurrent hs
  | channelReset m => exact streamsCurrent_assertChannelReset hs m
  | commit c w => exact streamsCurrent_commitEvent hs c w
  | bind m c => exact streamsCurrent_bindEvent hs m c

/-- Settles O56: by what each event does to the stream records, the bindings and the Window Table. -/
theorem streamsStayCurrent : Obligations.StreamsStayCurrent := by
  unfold Obligations.StreamsStayCurrent
  exact fun s t hs h => law_of_step Quiet.streamsCurrent Event.streamsCurrent streamsCurrent_powerOn hs h

end Sys2Proof.Machine
end

section
/-! SUPPORT. The beginning and repetition of a search, and CRSTm#: O14, O12 and O13. -/

namespace Sys2Proof.Machine

/-! ## Searches (R36, R38, R41) -/

theorem searchBegin_of_waiting {s : State} {l : Lookup} {rest : List Lookup} (hi : s.engine = .idle)
    (hw : s.waitList = l :: rest) :
    exec .searchBegin s = .next { s with
      waitList := rest
      engine := .searching { lookup := l, captured := s.version l.ctx, abandoned := false }
      out := Out.quiet } := by
  rw [exec_searchBegin, execSearchBegin, hi, hw]
  rfl

theorem searchCompletion_of_overtaken {s : State} {v : Served} (he : s.engine = .searching v)
    (ha : v.abandoned = false) (hv : v.captured ≠ s.version v.lookup.ctx) :
    exec .searchCompletion s = .next { s with
      engine := .repeating { lookup := v.lookup, captured := s.version v.lookup.ctx, abandoned := false }
      out := Out.quiet } := by
  rw [exec_searchCompletion, execSearchCompletion, he]
  simp only [ha, Bool.false_eq_true, if_false, if_neg hv]
  rfl

theorem searchCompletion_of_abandoned {s : State} {v : Served} (he : s.engine = .searching v)
    (ha : v.abandoned = true) :
    exec .searchCompletion s = .next { s with engine := .idle, out := Out.quiet } := by
  rw [exec_searchCompletion, execSearchCompletion, he]
  simp only [ha, if_true]
  rfl

theorem repeatedSearchCompletion_of_abandoned {s : State} {v : Served} (he : s.engine = .repeating v)
    (ha : v.abandoned = true) :
    exec .repeatedSearchCompletion s = .next { s with engine := .idle, out := Out.quiet } := by
  rw [exec_repeatedSearchCompletion, execRepeatedSearchCompletion, he]
  simp only [ha, if_true]
  rfl

/-- Settles O14. -/
theorem searchesBeginAndRepeat : Obligations.SearchesBeginAndRepeat := by
  unfold Obligations.SearchesBeginAndRepeat
  exact fun s => ⟨fun _ _ => searchBegin_of_waiting, fun _ => searchCompletion_of_overtaken,
    fun _ ha => ⟨fun he => searchCompletion_of_abandoned he ha, fun he => repeatedSearchCompletion_of_abandoned he ha⟩⟩

/-! ## CRSTm# (R33, R41, R62, R63, R135) -/

/-- The lookup served is marked abandoned when it is master m's, and keeps an older mark (R41). -/
theorem abandon_mark (m : Master) (v : Served) :
    (if v.lookup.master = m then { v with abandoned := true } else v) =
      { v with abandoned := v.abandoned || decide (v.lookup.master = m) } := by
  split
  · next h => simp [h]
  · next h => simp [h]

theorem engine_abandon_eq (m : Master) (e : Engine) :
    e.abandon m = (match e with
      | .idle => .idle
      | .searching v => .searching { v with abandoned := v.abandoned || decide (v.lookup.master = m) }
      | .repeating v => .repeating { v with abandoned := v.abandoned || decide (v.lookup.master = m) }) := by
  cases e with
  | idle => rfl
  | searching v => exact congrArg Engine.searching (abandon_mark m v)
  | repeating v => exact congrArg Engine.repeating (abandon_mark m v)

/-- Settles O12: an IDLE record has no request to abandon. -/
theorem channelResetOfIdleRecord : Obligations.ChannelResetOfIdleRecord := by
  unfold Obligations.ChannelResetOfIdleRecord
  intro m s hr
  rw [exec_channelResetAssertion, execChannelResetAssertion, assertChannelReset_eq, abandonRequest_of_none,
    engine_abandon_eq]
  · rfl
  · exact hr

/-- CRSTm# with a request held, field by field (R33, R41, R62, R63, R135, R143). -/
theorem assertChannelReset_of_some {s : State} {m : Master} {r : Request} (hr : s.record m = some r) :
    s.assertChannelReset m = { s with
      channels := s.channels.set m { s.channel m with crst := true }
      streams := s.streams.set m none
      waitList := s.waitList.filter (·.master ≠ m)
      engine := s.engine.abandon m
      port := { s.port with tags := Vector.ofFn fun t : TagNo => orphanTag m r t (s.tag t) }
      records := s.records.set m none
      drain := s.drain.update fun job => Member.afterAbandonment m (qualifyingOrphans m r job) } := by
  exact (assertChannelReset_eq s m).trans (abandonRequest_of_some (r := r) hr)

theorem assertChannelReset_tag {s : State} {m : Master} {r : Request} (hr : s.record m = some r) (k : TagNo) :
    (s.assertChannelReset m).tag k = orphanTag m r k (s.tag k) := by
  rw [assertChannelReset_of_some hr]
  simp [State.tag]

/-- A tag on which an operation of the request of m is ISSUED becomes an orphan's (R63, R135). -/
theorem orphanTag_of_request {m : Master} {r : Request} {k : TagNo} {g : Tag} {l : LiveWork} {label : Label}
    {o : WordOp} (hl : g.state = .live l) (ho : l.owner = .request m label) (hop : r.opOnTag k = some o) :
    orphanTag m r k g = { g with state := .live { l with owner := .orphan (orphanOf m o) } } := by
  unfold orphanTag
  simp only [hl, ho, if_true, hop]

/-- Every tag that is not owned by the request of m stays (R135). -/
theorem orphanTag_of_other {m : Master} {g : Tag}
    (h : ∀ (l : LiveWork) (label : Label), g.state = .live l → l.owner ≠ .request m label) (r : Request) (k : TagNo) :
    orphanTag m r k g = g := by
  unfold orphanTag
  split
  · rfl
  · rfl
  · next l hl =>
    split
    · rfl
    · rfl
    · next m' label ho =>
      exact if_neg fun e => h l label hl (by rw [ho, e])

/-- Settles O13. -/
theorem channelResetMakesOrphans : Obligations.ChannelResetMakesOrphans := by
  unfold Obligations.ChannelResetMakesOrphans
  intro m s r hr
  have hb : s.beginEvent.record m = some r := hr
  have ht := assertChannelReset_of_some hb
  refine ⟨s.beginEvent.assertChannelReset m, rfl, ?_, by rw [ht]; rfl, ?_, by rw [ht]; rfl, fun m' hne => ?_,
    fun k l label o hl ho hop => ?_, fun k hk => ?_, ?_⟩
  · rw [ht]
    simp [State.record]
  · rw [ht]
    simp [State.stream]
  · have hv : m.val ≠ m'.val := fun e => hne (Fin.ext e.symm)
    rw [ht]
    simp [State.record, State.stream, hv]
  · rw [assertChannelReset_tag hb]
    exact orphanTag_of_request hl ho hop
  · rw [assertChannelReset_tag hb]
    exact orphanTag_of_other hk r k
  · rw [ht]
    exact ⟨rfl, rfl, rfl, rfl, rfl, rfl, rfl, rfl, rfl, rfl, rfl, rfl, rfl, rfl, engine_abandon_eq m s.engine, rfl⟩

end Sys2Proof.Machine
end

section
/-! SUPPORT. The course of a translation, part by part, in the words of the statements. -/

namespace Sys2Proof.Machine

/-! ## The end of a translation (R43, R54, R56) -/

/-- A translated request that is not posted enters HELD (R43, R54). -/
theorem completeTranslation_of_held {s : State} {m : Master} {r : Request} (ht : r.translated)
    (hp : r.kind = .write → ¬ s.posts r) : s.completeTranslation m r = s.holdRequest m r := by
  cases hk : r.kind with
  | read => exact completeTranslation_of_read (all_translated ht) hk
  | write => rw [completeTranslation_of_write (all_translated ht) hk, if_neg ((mayPost_iff_posts ht).not.2 (hp hk))]

/-- A translated WRITE that may be posted is posted (R56). -/
theorem completeTranslation_of_posts {s : State} {m : Master} {r : Request} (hk : r.kind = .write)
    (ht : r.translated) (hp : s.posts r) : s.completeTranslation m r = s.postRequest m r := by
  rw [completeTranslation_of_write (all_translated ht) hk, if_pos ((mayPost_iff_posts ht).2 hp)]

/-- The request r in HELD with its operations made (R54, R67). -/
def State.heldRequest (s : State) (r : Request) : Request :=
  { r with state := .held, ops := s.translatedOps r, gathered := Bytes8.zero }

theorem translatedOps_pending {s : State} {r : Request} {o : WordOp} (h : o ∈ s.translatedOps r) :
    o.state = .pending := by
  rw [← requestOps_translatedOps, List.mem_map] at h
  obtain ⟨o', ho, rfl⟩ := h
  obtain ⟨p, -, hp⟩ := List.mem_flatMap.1 ho
  unfold partOps at hp
  split at hp
  · simp at hp
  · obtain ⟨sh, -, rfl⟩ := List.mem_map.1 hp
    rfl

/-- Every part lies in at least one word (R67). -/
theorem places_ne_nil (w : WinCopy) (label : Label) (a : LogAddr) (n : Nat) : w.places label a n ≠ [] := by
  cases label with
  | only =>
    simp only [WinCopy.places, WinCopy.onlyShapes]
    split <;> simp
  | first => simp [WinCopy.places]
  | second => simp [WinCopy.places]

/-- A translated request has an operation (R67). -/
theorem translatedOps_ne_nil {r : Request} (ht : r.translated) (s : State) : s.translatedOps r ≠ [] := by
  obtain ⟨-, hc⟩ := ht r.part1 (by simp [Request.parts])
  obtain ⟨w, hw⟩ := Option.ne_none_iff_exists'.1 hc
  intro h
  have h1 := List.flatMap_eq_nil_iff.1 h r.part1 (by simp [Request.parts])
  rw [hw] at h1
  exact places_ne_nil _ _ _ _ (List.map_eq_nil_iff.1 h1)

/-- A record that has just entered HELD has work left (R54). -/
theorem heldRequest_unfinished {r : Request} (ht : r.translated) (s : State) : (s.heldRequest r).finished = false := by
  obtain ⟨o, ho⟩ := List.exists_mem_of_ne_nil _ (translatedOps_ne_nil ht s)
  refine List.all_eq_false.2 ⟨o, ho, ?_⟩
  rw [translatedOps_pending ho]
  exact Bool.false_ne_true

theorem holdRequest_eq_judge (s : State) (m : Master) (r : Request) :
    s.holdRequest m r = (s.setRecord m (some (s.heldRequest r))).judgeReadiness m := holdRequest_eq s m r

/-- A translated request whose words are free of quarantine is HELD with its operations PENDING (R54, R67, R74). -/
theorem holdRequest_of_free {s : State} {m : Master} {r : Request} (ht : r.translated)
    (hq : ∀ o ∈ s.translatedOps r, s.quarantinedBy o.word = none) :
    s.holdRequest m r = s.setRecord m (some (s.heldRequest r)) := by
  rw [holdRequest_eq_judge]
  refine judgeReadiness_of_free (r := s.heldRequest r) (by simp [setRecord_record]) (fun o ho => ?_)
    (heldRequest_unfinished ht s)
  exact failsAtReadiness_of_free (hq o ho)

/-! ## A part resolved (R24 to R28, R38) -/

/-- The first part resolves to ONLY through a window: the translation ends (R24, R28, R43). -/
theorem resolveFirst_only_found {s : State} {m : Master} {r : Request} {w : WinCopy} (hr : s.record m = some r)
    (hl : resolvedLabel r.addr r.sizeM1 (some w) = .only) :
    s.resolveFirst m (some w) =
      State.completeTranslation { s with
        records := s.records.set m (some { r with part1 := s.foundPart r .only w })
        log := deniedUnless s.log m r .only w } m { r with part1 := s.foundPart r .only w } := by
  rw [resolveFirst_of_only hr hl, handInOption_deniedUnless, State.onlyFirst, resolvePart_some _ _ _ _ rfl]
  rfl

/-- The first part resolves to a FIRST part through a window, and the SECOND's translation begins (R28, R31). -/
theorem resolveFirst_first_found {s : State} {m : Master} {r : Request} {w : WinCopy} (hr : s.record m = some r)
    (hl : resolvedLabel r.addr r.sizeM1 (some w) = .first) :
    s.resolveFirst m (some w) =
      State.beginSecond { s with
        records := s.records.set m (some { r with part1 := s.foundPart r .first w })
        log := deniedUnless s.log m r .first w } m := by
  rw [resolveFirst_of_first hr hl, handInOption_deniedUnless, resolvePart_some _ _ _ _ rfl]
  rfl

/-- No window is found for an ONLY part: the translation ends (R38, R43). -/
theorem resolveFirst_only_missed {s : State} {m : Master} {r : Request} (hr : s.record m = some r)
    (hl : resolvedLabel r.addr r.sizeM1 none = .only) :
    s.resolveFirst m none =
      State.completeTranslation { s with
        records := s.records.set m (some { r with part1 := missedPart r .only })
        log := unmappedIn s.log m r .only } m { r with part1 := missedPart r .only } := by
  rw [resolveFirst_of_only hr hl, handInOption_unmappedIn, State.onlyFirst, resolvePart_none _ _ _ rfl]
  rfl

/-- No window is found for a FIRST part, and the SECOND's translation begins (R31, R38). -/
theorem resolveFirst_first_missed {s : State} {m : Master} {r : Request} (hr : s.record m = some r)
    (hl : resolvedLabel r.addr r.sizeM1 none = .first) :
    s.resolveFirst m none =
      State.beginSecond { s with
        records := s.records.set m (some { r with part1 := missedPart r .first })
        log := unmappedIn s.log m r .first } m := by
  rw [resolveFirst_of_first hr hl, handInOption_unmappedIn, resolvePart_none _ _ _ rfl]
  rfl

/-- A window is found for the SECOND part: the translation ends (R28, R43). -/
theorem resolveSecond_found {s : State} {m : Master} {r : Request} (hr : s.record m = some r) (w : WinCopy) :
    s.resolveSecond m (some w) =
      State.completeTranslation { s with
        records := s.records.set m (some { r with part2 := some (s.foundPart r .second w) })
        log := deniedUnless s.log m r .second w } m { r with part2 := some (s.foundPart r .second w) } := by
  unfold State.resolveSecond
  simp only [hr]
  rw [handInOption_deniedUnless, resolvePart_some _ _ _ _ rfl]
  rfl

/-- No window is found for the SECOND part: the translation ends (R38, R43). -/
theorem resolveSecond_missed {s : State} {m : Master} {r : Request} (hr : s.record m = some r) :
    s.resolveSecond m none =
      State.completeTranslation { s with
        records := s.records.set m (some { r with part2 := some (missedPart r .second) })
        log := unmappedIn s.log m r .second } m { r with part2 := some (missedPart r .second) } := by
  unfold State.resolveSecond
  simp only [hr]
  rw [handInOption_unmappedIn, resolvePart_none _ _ _ rfl]
  rfl

/-! ## The beginning of a SECOND part (R25, R31) -/

/-- The stream record misses the SECOND part: its lookup joins the tail (R31, R34). -/
theorem beginSecond_of_miss {s : State} {m : Master} {r : Request} {g : Nat} (hr : s.record m = some r)
    (h2 : granule2 r.addr r.sizeM1 = g) (hg : g ≠ 65536) (hs : s.missesStream m r.ctx g) :
    s.beginSecond m = { s with
      records := s.records.set m (some { r with part2 := some (waitingPart r .second) })
      waitList := s.waitList ++ [{ master := m, ctx := r.ctx, granule := BitVec.ofNat 16 g, label := .second }] } := by
  subst h2
  unfold State.beginSecond
  simp only [hr, if_neg hg, streamHit_eq_none hs]
  rfl

/-- The stream record gives the SECOND part its window (R31). -/
theorem beginSecond_of_hit {s : State} {m : Master} {r : Request} {w : WinCopy} {g : Nat} (hr : s.record m = some r)
    (h2 : granule2 r.addr r.sizeM1 = g) (hg : g ≠ 65536) (hs : s.stream m = some { ctx := r.ctx, win := w })
    (hw : w.contains g) : s.beginSecond m = s.resolveSecond m (some w) := by
  subst h2
  unfold State.beginSecond
  simp only [hr, if_neg hg, streamHit_eq_some hs hw]

/-! ## Labels (R24, R25) -/

theorem resolvedLabel_of_one_granule {a : LogAddr} {n : BitVec 3} (h : (a.toNat + n.toNat) / 256 = a.toNat / 256)
    (found : Option WinCopy) : resolvedLabel a n found = .only := if_pos h

/-- A window that ends before the next granule leaves a FIRST part (R24). -/
theorem resolvedLabel_of_next {a : LogAddr} {n : BitVec 3} {w : WinCopy} (hw : w.contains (a.toNat / 256))
    (hg : (a.toNat + n.toNat) / 256 = a.toNat / 256 + 1) (hn : ¬ w.contains (a.toNat / 256 + 1)) :
    resolvedLabel a n (some w) = .first := by
  have h2 : granule2 a n = a.toNat / 256 + 1 := hg
  have hne : granule2 a n ≠ granule1 a := by
    rw [h2]
    exact Nat.succ_ne_self _
  have hlast : ¬ granule2 a n ≤ lastGranule w.start w.lenM1 := by
    rw [h2]
    exact fun h => hn ⟨Nat.le_succ_of_le hw.1, h⟩
  simp [resolvedLabel, hne, hlast]

/-- Without a window an access of two granules has a FIRST part (R24, R25). -/
theorem resolvedLabel_of_two_missed {a : LogAddr} {n : BitVec 3}
    (hg : (a.toNat + n.toNat) / 256 = a.toNat / 256 + 1) : resolvedLabel a n none = .first := by
  have hne : granule2 a n ≠ granule1 a := by
    show (a.toNat + n.toNat) / 256 ≠ _
    rw [hg]
    exact Nat.succ_ne_self _
  simp [resolvedLabel, hne]

/-- A part found ONLY that has the right (R26, R27, R73). -/
theorem foundPart_only {s : State} {r : Request} {w : WinCopy} (h : w.permits r.kind = true) :
    s.foundPart r .only w = s.onlyPart w r.addr (r.sizeM1.toNat + 1) := by
  simp [State.foundPart, State.onlyPart, h, WinCopy.places, partRun]

/-- The log stays where the part has the right (R28). -/
theorem deniedUnless_of_permits {w : WinCopy} {r : Request} (h : w.permits r.kind = true) (log : FaultLog) (m : Master)
    (label : Label) : deniedUnless log m r label w = log := if_pos h

/-! ## A FIRST part and its SECOND in one event (R25, R31) -/

/-- The record that a part of its request was just written to. -/
theorem record_set (s : State) (m : Master) (r : Option Request) (log : FaultLog) :
    State.record { s with records := s.records.set m r, log := log } m = r := by
  simp [State.record]

/-- A FIRST part is found, and its SECOND part is looked up (R28, R31). -/
theorem resolveFirst_found_miss {s : State} {m : Master} {r : Request} {w : WinCopy} {g : Nat}
    (hr : s.record m = some r) (hl : resolvedLabel r.addr r.sizeM1 (some w) = .first)
    (h2 : granule2 r.addr r.sizeM1 = g) (hg : g ≠ 65536) (hs : s.missesStream m r.ctx g) :
    s.resolveFirst m (some w) = { s with
      records := s.records.set m (some { r with
        part1 := s.foundPart r .first w, part2 := some (waitingPart r .second) })
      waitList := s.waitList ++ [{ master := m, ctx := r.ctx, granule := BitVec.ofNat 16 g, label := .second }]
      log := deniedUnless s.log m r .first w } := by
  rw [resolveFirst_first_found hr hl,
    beginSecond_of_miss (r := { r with part1 := s.foundPart r .first w }) (record_set s m _ _) h2 hg hs]
  simp only [Vector.set_set]
  rfl

/-- A FIRST part is found, and its SECOND part lies past FFFFFFh (R25, R28). -/
theorem resolveFirst_found_past {s : State} {m : Master} {r : Request} {w : WinCopy} (hr : s.record m = some r)
    (h2 : granule2 r.addr r.sizeM1 = 65536) {r' : Request}
    (hr' : r' = { r with part1 := s.foundPart r .first w, part2 := some (missedPart r .second) }) :
    s.resolveFirst m (some w) = State.completeTranslation { s with
      records := s.records.set m (some r')
      log := unmappedIn (deniedUnless s.log m r .first w) m r .second } m r' := by
  subst hr'
  rw [resolveFirst_first_found hr (resolvedLabel_of_past h2 w),
    beginSecond_of_past (r := { r with part1 := s.foundPart r .first w }) (record_set s m _ _) h2,
    resolveSecond_missed (r := { r with part1 := s.foundPart r .first w }) (record_set s m _ _)]
  simp only [Vector.set_set]
  rfl

/-- A FIRST part is not found, and its SECOND part is looked up (R31, R38). -/
theorem resolveFirst_missed_miss {s : State} {m : Master} {r : Request} {g : Nat}
    (hr : s.record m = some r) (hl : resolvedLabel r.addr r.sizeM1 none = .first)
    (h2 : granule2 r.addr r.sizeM1 = g) (hg : g ≠ 65536) (hs : s.missesStream m r.ctx g) :
    s.resolveFirst m none = { s with
      records := s.records.set m (some { r with
        part1 := missedPart r .first, part2 := some (waitingPart r .second) })
      waitList := s.waitList ++ [{ master := m, ctx := r.ctx, granule := BitVec.ofNat 16 g, label := .second }]
      log := unmappedIn s.log m r .first } := by
  rw [resolveFirst_first_missed hr hl,
    beginSecond_of_miss (r := { r with part1 := missedPart r .first }) (record_set s m _ _) h2 hg hs]
  simp only [Vector.set_set]
  rfl

/-- A FIRST part is not found, and the stream record gives its SECOND part a window (R31, R38). -/
theorem resolveFirst_missed_hit {s : State} {m : Master} {r : Request} {w : WinCopy} {g : Nat}
    (hr : s.record m = some r) (hl : resolvedLabel r.addr r.sizeM1 none = .first)
    (h2 : granule2 r.addr r.sizeM1 = g) (hg : g ≠ 65536) (hs : s.stream m = some { ctx := r.ctx, win := w })
    (hw : w.contains g) {r' : Request}
    (hr' : r' = { r with part1 := missedPart r .first, part2 := some (s.foundPart r .second w) }) :
    s.resolveFirst m none = State.completeTranslation { s with
      records := s.records.set m (some r')
      log := deniedUnless (unmappedIn s.log m r .first) m r .second w } m r' := by
  subst hr'
  rw [resolveFirst_first_missed hr hl,
    beginSecond_of_hit (r := { r with part1 := missedPart r .first }) (record_set s m _ _) h2 hg hs hw,
    resolveSecond_found (r := { r with part1 := missedPart r .first }) (record_set s m _ _)]
  simp only [Vector.set_set]
  rfl

/-- Neither part is found: the SECOND lies past FFFFFFh (R25, R38). -/
theorem resolveFirst_missed_past {s : State} {m : Master} {r : Request} (hr : s.record m = some r)
    (hl : resolvedLabel r.addr r.sizeM1 none = .first) (h2 : granule2 r.addr r.sizeM1 = 65536) {r' : Request}
    (hr' : r' = { r with part1 := missedPart r .first, part2 := some (missedPart r .second) }) :
    s.resolveFirst m none = State.completeTranslation { s with
      records := s.records.set m (some r')
      log := unmappedIn (unmappedIn s.log m r .first) m r .second } m r' := by
  subst hr'
  rw [resolveFirst_first_missed hr hl,
    beginSecond_of_past (r := { r with part1 := missedPart r .first }) (record_set s m _ _) h2,
    resolveSecond_missed (r := { r with part1 := missedPart r .first }) (record_set s m _ _)]
  simp only [Vector.set_set]
  rfl

end Sys2Proof.Machine
end

section
/-! SUPPORT. Acceptance: O6, O8, O7 and O9. -/

namespace Sys2Proof.Machine

/-! ## A request that looks up (R28, R31, R34, R52) -/

/-- The first part of a bound request that misses the stream record is looked up (R52). -/
theorem acceptOffer_of_miss {s : State} {m : Master} {o : Offer} {c : Ctx} (hb : s.binding m = some c)
    (hs : s.missesStream m c (granule1 o.addr)) :
    s.acceptOffer m o =
      State.joinWaitList ((s.takeOffer m o).setRecord m (some (newRequest o (s.channel m).serial c)))
        (firstLookup m (newRequest o (s.channel m).serial c)) := by
  unfold State.acceptOffer
  simp only [hb, streamHit_eq_none hs]

/-- The state in which the first part of an accepted request is resolved: the offer taken, the record written. -/
def State.accepted (s : State) (m : Master) (r : Request) (o : Offer) : State :=
  { s with
    channels := s.takenChannels m o
    records := s.records.set m (some r)
    out := Out.quiet }

theorem accepted_record (s : State) (m : Master) (r : Request) (o : Offer) :
    (s.accepted m r o).record m = some r := by
  simp [State.accepted, State.record]

theorem exec_accept_hit_accepted {s : State} {m : Master} {o : Offer} {x : StreamRec} (ha : s.mayAccept m)
    (hs : s.stream m = some x) (hb : s.binding m = some x.ctx) (hg : x.win.contains (o.addr.toNat / 256)) :
    exec (.requestAcceptance m o) s =
      .next (State.resolveFirst (s.accepted m (newRequest o (s.channel m).serial x.ctx) o) m (some x.win)) :=
  exec_accept_hit ha hs hb hg

/-- Settles O6: the miss of an acceptance, and the miss of a SECOND part. -/
theorem streamMissJoinsWaitList : Obligations.StreamMissJoinsWaitList := by
  unfold Obligations.StreamMissJoinsWaitList
  refine ⟨?_, ?_⟩
  · rintro m o s c label ha hb hs rfl
    rw [exec_accept ha, acceptOffer_of_miss (s := s.beginEvent) hb hs]
    rfl
  · rintro m o s x r ha hs hb hw hg hlt hn rfl
    have hmiss : s.missesStream m x.ctx (o.addr.toNat / 256 + 1) := by
      intro y hy
      rw [hs] at hy
      cases hy
      exact fun h => hn h.2
    rw [exec_accept_hit_accepted ha hs hb hw,
      resolveFirst_found_miss (r := newRequest o (s.channel m).serial x.ctx) (g := o.addr.toNat / 256 + 1)
        (accepted_record _ _ _ _) (resolvedLabel_of_next hw hg hn) hg hlt.ne hmiss]
    simp only [State.accepted, Vector.set_set]
    rfl

/-! ## An ONLY part at acceptance (R24, R28, R43, R52) -/

/-- An access that hits as an ONLY part is resolved in its acceptance event (R24, R28, R43, R52). -/
theorem exec_accept_only {s : State} {m : Master} {o : Offer} {x : StreamRec} (ha : s.mayAccept m)
    (hs : s.stream m = some x) (hb : s.binding m = some x.ctx) (hw : x.win.contains (o.addr.toNat / 256))
    (hw2 : x.win.contains ((o.addr.toNat + o.sizeM1.toNat) / 256))
    (hlt : (o.addr.toNat + o.sizeM1.toNat) / 256 < 65536) {r r' : Request}
    (hr : r = newRequest o (s.channel m).serial x.ctx) (hr' : r' = { r with part1 := s.foundPart r .only x.win }) :
    exec (.requestAcceptance m o) s = .next (State.completeTranslation { s with
      channels := s.takenChannels m o
      records := s.records.set m (some r')
      log := deniedUnless s.log m r .only x.win
      out := Out.quiet } m r') := by
  subst hr hr'
  rw [exec_accept_hit_accepted ha hs hb hw,
    resolveFirst_only_found (accepted_record _ _ _ _) (resolvedLabel_eq_only hw2 hlt)]
  simp only [State.accepted, Vector.set_set]
  rfl

/-- The request of an access that hit as an ONLY part with the right. -/
def hitRequest (s : State) (m : Master) (o : Offer) (x : StreamRec) : Request :=
  { newRequest o (s.channel m).serial x.ctx with part1 := s.onlyPart x.win o.addr (o.sizeM1.toNat + 1) }

theorem hitRequest_translated (s : State) (m : Master) (o : Offer) (x : StreamRec) :
    (hitRequest s m o x).translated := by
  intro p hp
  obtain rfl : p = s.onlyPart x.win o.addr (o.sizeM1.toNat + 1) := by
    simpa [Request.parts, hitRequest, newRequest] using hp
  exact ⟨rfl, nofun⟩

/-- With the right, the request is TRANSLATED and no record is made (R27, R28). -/
theorem exec_accept_only_permitted {s : State} {m : Master} {o : Offer} {x : StreamRec} (ha : s.mayAccept m)
    (hs : s.stream m = some x) (hb : s.binding m = some x.ctx) (hw : x.win.contains (o.addr.toNat / 256))
    (hw2 : x.win.contains ((o.addr.toNat + o.sizeM1.toNat) / 256))
    (hlt : (o.addr.toNat + o.sizeM1.toNat) / 256 < 65536) (hp : x.win.permits o.kind = true) :
    exec (.requestAcceptance m o) s =
      .next (State.completeTranslation (s.accepted m (hitRequest s m o x) o) m (hitRequest s m o x)) := by
  have hk : x.win.permits (newRequest o (s.channel m).serial x.ctx).kind = true := hp
  rw [exec_accept_only ha hs hb hw hw2 hlt rfl rfl, foundPart_only hk, deniedUnless_of_permits hk]
  rfl

/-- The operations of an ONLY part of a WRITE, with their own snapshots (R67, R69, R71, R73). -/
theorem translatedOps_only_write {s : State} {r : Request} {w : WinCopy} (hk : r.kind = .write) (h2 : r.part2 = none)
    (hn : (s.pwq.map (·.id)).Nodup) (h1 : r.part1 = s.onlyPart w r.addr (r.sizeM1.toNat + 1)) :
    s.translatedOps r = s.onlyWrites r.ctx w r.addr (r.sizeM1.toNat + 1) r.data := by
  unfold State.translatedOps State.onlyWrites Request.parts
  rw [h1, h2]
  simp only [Option.toList_none, List.flatMap_cons, List.flatMap_nil, List.append_nil, State.onlyPart, hk,
    WinCopy.places]
  refine List.map_congr_left fun x hx => ?_
  simp only [State.entriesFor]
  rw [snapshot_of_word hn (List.mem_map_of_mem hx)]

/-- A word of an operation made from an ONLY part is a word of the part (R67). -/
theorem translatedOps_word_only {s : State} {r : Request} {w : WinCopy} (h2 : r.part2 = none)
    (h1 : r.part1 = s.onlyPart w r.addr (r.sizeM1.toNat + 1)) {o : WordOp} (ho : o ∈ s.translatedOps r) :
    ∃ x ∈ w.onlyShapes r.addr (r.sizeM1.toNat + 1), o.word = x.1 := by
  unfold State.translatedOps Request.parts at ho
  rw [h1, h2] at ho
  simp only [Option.toList_none, List.flatMap_cons, List.flatMap_nil, List.append_nil, State.onlyPart] at ho
  obtain ⟨x, hx, rfl⟩ := List.mem_map.1 ho
  exact ⟨x, hx, rfl⟩

/-! ## HELD at acceptance (R54) -/

/-- A WRITE through a STRICT window, or without places in the queue, is not posted (R56). -/
theorem not_posts_hitRequest {s : State} {m : Master} {o : Offer} {x : StreamRec}
    (h : x.win.posting = .strict ∨ 8 < s.pwq.length + (x.win.onlyShapes o.addr (o.sizeM1.toNat + 1)).length) :
    ¬ s.posts (hitRequest s m o x) := by
  rintro ⟨hpost, hroom⟩
  rcases h with h | h
  · have := hpost (s.onlyPart x.win o.addr (o.sizeM1.toNat + 1)) (by simp [Request.parts, hitRequest]) x.win rfl
    rw [h] at this
    exact nomatch this
  · have hlen : (s.translatedOps (hitRequest s m o x)).length =
        (x.win.onlyShapes o.addr (o.sizeM1.toNat + 1)).length := by
      simp [State.translatedOps, Request.parts, hitRequest, newRequest, State.onlyPart, WinCopy.places]
    omega

/-- Settles O7: an ONLY part that hit, with its operations written out, and any translated request. -/
theorem streamHitReadIsHeld : Obligations.StreamHitReadIsHeld := by
  unfold Obligations.StreamHitReadIsHeld
  refine ⟨?_, ?_, ?_, ?_⟩
  · intro m o s x ha hs hb hk hw hw2 hlt hp hn hq
    rw [exec_accept_hit_accepted ha hs hb hw,
      resolveFirst_of_only_read (s := s.accepted m (newRequest o (s.channel m).serial x.ctx) o)
        (r := newRequest o (s.channel m).serial x.ctx) hk rfl hn (accepted_record _ _ _ _)
          (resolvedLabel_eq_only hw2 hlt)
        hp hq]
    simp only [State.accepted, State.setRecord, Vector.set_set]
    simp only [newRequest, hk]
    rfl
  · intro m o s x ha hs hb hk hw hw2 hlt hp hpost hn hq
    have hperm : x.win.permits o.kind = true := by rw [hk]; exact hp
    have hops : (s.accepted m (hitRequest s m o x) o).translatedOps (hitRequest s m o x) =
        s.onlyWrites x.ctx x.win o.addr (o.sizeM1.toNat + 1) (recordedLanes o.kind o.sizeM1 o.lanes) :=
      translatedOps_only_write hk rfl hn rfl
    rw [exec_accept_only_permitted ha hs hb hw hw2 hlt hperm,
      completeTranslation_of_held (s := s.accepted m (hitRequest s m o x) o) (hitRequest_translated s m o x)
        fun _ => not_posts_hitRequest (s := s) hpost,
      holdRequest_of_free (hitRequest_translated s m o x) fun op ho => ?_]
    · rw [State.heldRequest, hops]
      simp only [State.accepted, State.setRecord, Vector.set_set]
      simp only [hitRequest, newRequest, hk]
    · obtain ⟨y, hy, he⟩ := translatedOps_word_only (s := s) rfl rfl ho
      exact he ▸ hq y hy
  · intro s m r ht hp hq
    rw [completeTranslation_of_held ht hp, holdRequest_of_free ht hq]
    rfl
  · intro s m r ht hp
    rw [completeTranslation_of_held ht hp, holdRequest_eq]

/-! ## A quarantined word at acceptance (R74) -/

/-- An access of one word lies in one granule (R1, R23). -/
theorem one_word_granule {a : LogAddr} {n : BitVec 3} (h : a.toNat % 8 + (n.toNat + 1) ≤ 8) :
    (a.toNat + n.toNat) / 256 = a.toNat / 256 := by
  omega

/-- A request whose one operation waits on a quarantine when it enters HELD replies TIMEOUT with its record
(R54, R74). -/
theorem holdRequest_of_one_quarantined {s : State} {m : Master} {r : Request} {o : WordOp} {k : TagNo}
    (hops : s.translatedOps r = [o]) (hq : s.quarantinedBy o.word = some k) :
    s.holdRequest m r =
      (s.handIn (opFault m (s.heldRequest r) o .timeout k)).replyRequest m
        (composeReply { s.heldRequest r with ops := [{ o with state := .done (.failed .timeout) (some k) }] }) := by
  have hpend : o.state = .pending := translatedOps_pending (s := s) (r := r) (by simp [hops])
  rw [holdRequest_eq_judge, judgeReadiness_of_one (s := s.setRecord m (some (s.heldRequest r)))
    (r := s.heldRequest r) (o := o) (t := k) (by simp [setRecord_record]) hops
      ((failsAtReadiness_of_pending hpend).trans hq),
    finishRequest_of_finished (r := { s.heldRequest r with
      ops := [{ o with state := .done (.failed .timeout) (some k) }] }) (by simp [setRecord_record]) rfl,
    replyRequest_setRecord]
  exact replyRequest_setRecord (s.handIn (opFault m (s.heldRequest r) o .timeout k)) m _ _

/-- The reply of a request whose one operation, its ONLY part's, timed out (R59, R85). -/
theorem composeReply_of_one_timeout {r : Request} {o : WordOp} {k : Option TagNo} (hops : r.ops = [o])
    (ho : o.state = .done (.failed .timeout) k) (h1 : r.part1.status = .translated) (hl : r.part1.label = o.label) :
    composeReply r = { status := .timeout, posted := false, data := Bytes8.zero } := by
  have hf : partFinal r r.part1 = .timeout := by
    simp [partFinal, h1, hops, hl, opsStatus, ho, Cause.replyStatus]
  exact composeReply_of_failed ((replyStatus_of_first (by simp [hf])).trans hf) nofun

/-- Eight bytes are the whole word: the operation of such a WRITE is no RMW (R69). -/
theorem sizeM1_eq_seven (n : BitVec 3) : n.toNat + 1 = 8 ↔ n = 7 := by
  constructor
  · intro h
    apply BitVec.eq_of_toNat_eq
    simp
    omega
  · rintro rfl
    rfl

/-- The one operation of an access of one word that hit as an ONLY part (R67, R69, R71). -/
theorem translatedOps_one_word {s : State} {m : Master} {o : Offer} {x : StreamRec}
    (h : o.addr.toNat % 8 + (o.sizeM1.toNat + 1) ≤ 8) :
    ∃ op, s.translatedOps (hitRequest s m o x) = [op] ∧ op.label = .only ∧ op.winIx = x.win.index ∧
      op.word = x.win.wordOf o.addr ∧
      op.work.kind = (match o.kind with
        | .read => .read
        | .write => if o.sizeM1 = 7 then .write else .rmw) := by
  have hshape : x.win.onlyShapes o.addr (o.sizeM1.toNat + 1) =
      [(x.win.wordOf o.addr, ⟨o.addr.toNat % 8, o.sizeM1.toNat + 1⟩, ⟨0, o.sizeM1.toNat + 1⟩)] := if_pos h
  unfold State.translatedOps Request.parts
  simp only [hitRequest, newRequest, State.onlyPart, WinCopy.places, Option.toList_none, List.flatMap_cons,
    List.flatMap_nil, List.append_nil, hshape, List.map_cons, List.map_nil]
  refine ⟨_, rfl, rfl, rfl, rfl, ?_⟩
  cases o.kind with
  | read => rfl
  | write =>
    dsimp only
    simp only [sizeM1_eq_seven]
    split <;> rfl

/-- Settles O8: the one operation fails as it is made; any ONLY part is resolved at acceptance. -/
theorem quarantinedWordFailsAtAcceptance : Obligations.QuarantinedWordFailsAtAcceptance := by
  unfold Obligations.QuarantinedWordFailsAtAcceptance
  refine ⟨?_, ?_⟩
  · intro m o s x k ha hs hb hw hone hright hq
    have hg := one_word_granule hone
    have hperm : x.win.permits o.kind = true := by
      rcases hright with ⟨hk, hp⟩ | ⟨hk, hp, -⟩ <;> rw [hk] <;> exact hp
    have hnp : o.kind = .write → ¬ s.posts (hitRequest s m o x) := fun hk => by
      rcases hright with ⟨hr, -⟩ | ⟨-, -, hst⟩
      · rw [hk] at hr
        exact nomatch hr
      · exact not_posts_hitRequest (.inl hst)
    obtain ⟨op, hops, hlabel, hix, hword, hkind⟩ := translatedOps_one_word (s := s) (m := m) (x := x) hone
    have hlt : (o.addr.toNat + o.sizeM1.toNat) / 256 < 65536 := by
      have := o.addr.isLt
      omega
    rw [exec_accept_only_permitted ha hs hb hw (hg ▸ hw) hlt hperm,
      completeTranslation_of_held (s := s.accepted m (hitRequest s m o x) o) (hitRequest_translated s m o x) hnp,
      holdRequest_of_one_quarantined (s := s.accepted m (hitRequest s m o x) o) (o := op) (k := k) hops (hword ▸ hq),
      composeReply_of_one_timeout rfl rfl rfl hlabel.symm]
    obtain ⟨-, -, -, hidle⟩ := ha
    refine congrArg Host.Outcome.next ((accepted_reply_eq hidle o (hitRequest s m o x) _ _).trans ?_)
    rw [opFault, hkind, hlabel, hix, hword]
    rfl
  · rintro m o s x r r' ha hs hb hw hw2 hlt rfl rfl
    exact exec_accept_only (r := newRequest o (s.channel m).serial x.ctx) ha hs hb hw hw2 hlt rfl rfl

/-! ## Posted at acceptance (R57, R96, R98, R101) -/

/-- The entries of a WRITE that hit as an ONLY part (R57, R67, R96). -/
theorem postedEntries_hitRequest {s : State} {m : Master} {o : Offer} {x : StreamRec} (hk : o.kind = .write) :
    s.postedEntries m (hitRequest s m o x) =
      (x.win.onlyShapes o.addr (o.sizeM1.toNat + 1)).mapIdx fun i (word, mask, lanes) =>
        { id := s.nextEntry + i, master := m, serial := (s.channel m).serial, ctx := x.ctx, addr := o.addr
          sizeM1 := o.sizeM1, label := .only, winIx := x.win.index, gen := x.win.gen, word := word, mask := mask
          data := placeLanes mask lanes (recordedLanes .write o.sizeM1 o.lanes)
          work := if mask.len = 8 then .write else .rmw .readPhase
          state := .queued } := by
  unfold State.postedEntries State.translatedOps Request.parts
  simp only [hitRequest, newRequest, State.onlyPart, WinCopy.places, Option.toList_none, List.flatMap_cons,
    List.flatMap_nil, List.append_nil, hk]
  apply List.ext_getElem
  · simp
  · intro i h1 h2
    simp

/-- The queue's oldest QUEUED entry after entries joined is its own, or one of those that joined (R98, R99). -/
theorem oldestQueued_of_joined {s t : State} {es : List Entry} (h : t.pwq = s.pwq ++ es) {e : Entry}
    (he : t.oldestQueued = some e) : s.oldestQueued = some e ∨ e ∈ es := by
  unfold State.oldestQueued at *
  rw [h, List.find?_append] at he
  cases hs : s.pwq.find? fun e => e.state == .queued with
  | some e' => rw [hs] at he; exact .inl he
  | none => rw [hs] at he; exact .inr (List.mem_of_find?_eq_some he)

/-- Settles O9: a posted WRITE, its entries written out where its ONLY part hit, and any that is posted. -/
theorem postedWriteJoinsQueue : Obligations.PostedWriteJoinsQueue := by
  unfold Obligations.PostedWriteJoinsQueue
  refine ⟨?_, ?_⟩
  · rintro m o s x es ha hs hb hk hw hw2 hlt hp hpost rfl hroom hhead hes
    have hperm : x.win.permits o.kind = true := by rw [hk]; exact hp
    rw [← postedEntries_hitRequest (s := s) (m := m) hk] at *
    have hposts : s.posts (hitRequest s m o x) := by
      refine ⟨fun p hp w hc => ?_, ?_⟩
      · obtain rfl : p = s.onlyPart x.win o.addr (o.sizeM1.toNat + 1) := by
          simpa [Request.parts, hitRequest, newRequest] using hp
        cases hc
        exact hpost
      · simpa [State.postedEntries] using hroom
    rw [exec_accept_only_permitted ha hs hb hw hw2 hlt hperm,
      completeTranslation_of_posts (s := s.accepted m (hitRequest s m o x) o) hk (hitRequest_translated s m o x) hposts,
      postRequest_eq, settleHead_of_free]
    · obtain ⟨-, -, -, hidle⟩ := ha
      have hrec : s.records.set m none = s.records := congrArg State.records (setRecord_self hidle)
      simp only [State.accepted, Vector.set_set, hrec]
      rfl
    · intro e he
      rcases oldestQueued_of_joined (s := s) rfl he with h | h
      · exact hhead e h
      · exact hes e h
  · rintro s m r es hk ht hp rfl
    rw [completeTranslation_of_posts hk ht hp, postRequest_eq]
    rfl

end Sys2Proof.Machine
end

section
/-! SUPPORT. What a search delivers: O15 and O16. -/

namespace Sys2Proof.Machine

/-- The state in which a search's result is taken: the engine IDLE, the stream record loaded (R32, R38). -/
def State.searched (s : State) (streams : Vector (Option StreamRec) 4) : State :=
  { s with streams := streams, engine := .idle, out := Out.quiet }

theorem searched_record {s : State} {m : Master} {r : Request} (hr : s.record m = some r)
    (streams : Vector (Option StreamRec) 4) : (s.searched streams).record m = some r := hr

/-- A found window is delivered to the part its lookup names (R32, R38). -/
theorem exec_delivers_found {s : State} {c : Instr} {v : Served} {m : Master} {ctx : Ctx} {w : WinIx}
    (hd : s.delivers c v) (hm : v.lookup.master = m) (hc : v.lookup.ctx = ctx)
    (hg : s.holdsGranule ctx w v.lookup.granule.toNat) :
    exec c s = .next (
      if v.lookup.label = .second then
        (s.searched (s.loaded m ctx ((s.slot ctx w).copy w))).resolveSecond m (some ((s.slot ctx w).copy w))
      else (s.searched (s.loaded m ctx ((s.slot ctx w).copy w))).resolveFirst m (some ((s.slot ctx w).copy w))) := by
  subst hm hc
  rw [exec_delivers hd]
  have hf : State.findWindow { s.beginEvent with engine := .idle } v.lookup.ctx v.lookup.granule.toNat =
      some ((s.slot v.lookup.ctx w).copy w) := findWindow_of_holdsGranule hg
  unfold State.deliver
  rw [hf]
  dsimp only
  rw [loadStream_some]
  cases hl : v.lookup.label <;> rfl

/-- That no window was found is delivered to the part its lookup names; the stream record stays (R32, R38). -/
theorem exec_delivers_missed {s : State} {c : Instr} {v : Served} {m : Master} {ctx : Ctx}
    (hd : s.delivers c v) (hm : v.lookup.master = m) (hc : v.lookup.ctx = ctx)
    (hg : s.lacksGranule ctx v.lookup.granule.toNat) :
    exec c s = .next (
      if v.lookup.label = .second then (s.searched s.streams).resolveSecond m none
      else (s.searched s.streams).resolveFirst m none) := by
  subst hm hc
  rw [exec_delivers hd]
  have hf : State.findWindow { s.beginEvent with engine := .idle } v.lookup.ctx v.lookup.granule.toNat = none :=
    findWindow_of_lacksGranule hg
  unfold State.deliver
  rw [hf]
  cases hl : v.lookup.label <;> rfl

/-- After a delivery the stream record misses a granule that the window found does not contain, if it was loaded, or
that it missed before (R30, R32). -/
theorem missesStream_loaded {s : State} {m : Master} {c : Ctx} {x : WinCopy} {g : Nat} (hx : ¬ x.contains g)
    (h : s.binding m = some c ∨ s.missesStream m c g) : (s.searched (s.loaded m c x)).missesStream m c g := by
  intro y hy
  have hstream : (s.searched (s.loaded m c x)).stream m =
      if s.binding m = some c then some { ctx := c, win := x } else s.stream m := by
    show (s.loaded m c x)[m] = _
    unfold State.loaded
    split
    · simp
    · rfl
  rw [hstream] at hy
  split at hy
  · cases hy
    exact fun h => hx h.2
  · next hb => exact h.resolve_left hb y hy

/-- Settles O15: the window is found, the stream record loaded, and the part resolved as its lookup names it. -/
theorem searchDeliversWindow : Obligations.SearchDeliversWindow := by
  unfold Obligations.SearchDeliversWindow
  refine ⟨?_, ?_⟩
  · rintro s c v m r w x hd ha hl hr hk h2 hone hv rfl hx hu hok hn hq
    have hgr : v.lookup.granule.toNat = r.addr.toNat / 256 := by
      have := r.addr.isLt
      rw [hl, BitVec.toNat_ofNat]
      omega
    have hm : v.lookup.master = m := by rw [hl]
    have hc : v.lookup.ctx = r.ctx := by rw [hl]
    rw [exec_delivers_found (w := w) ⟨hd, ha⟩ hm hc (by rw [hgr]; exact ⟨hv, hx, hu⟩), if_neg (by rw [hl]; nofun),
      resolveFirst_of_only_read (s := s.searched _) hk h2 hn (searched_record hr _)
        (resolvedLabel_of_one_granule hone _) hok hq]
    rfl
  · rintro s c v m r w x hd hm hc hr hg rfl
    have hexec := exec_delivers_found hd hm hc hg
    refine ⟨fun hl hgr => ?_, fun hl r' hr' => ?_⟩
    · rw [if_neg hl] at hexec
      rw [hexec]
      have hw := hgr ▸ hg.2.1
      refine ⟨fun r' hr' hone => ?_, fun r' hr' h2 hlt hn hs => ?_, fun r' hr' h2 => ?_⟩
      · have hlabel : resolvedLabel r.addr r.sizeM1 (some ((s.slot r.ctx w).copy w)) = .only :=
          hone.elim (fun h => resolvedLabel_of_one_granule h _) fun h => resolvedLabel_eq_only h.2 h.1
        subst hr'
        rw [resolveFirst_only_found (searched_record hr _) hlabel]
        rfl
      · subst hr'
        rw [resolveFirst_found_miss (searched_record hr _) (resolvedLabel_of_next hw h2 hn) h2 hlt.ne
          (missesStream_loaded hn hs)]
        rfl
      · rw [resolveFirst_found_past (searched_record hr _) h2 hr']
        rfl
    · rw [if_pos hl] at hexec
      subst hr'
      rw [hexec, resolveSecond_found (searched_record hr _)]
      rfl

/-- The ONLY part of an access is not found: the request replies UNMAPPED (R43, R53). -/
theorem completeTranslation_of_missed_first {s : State} {m : Master} {r : Request} (hops : r.ops = [])
    (h2 : r.part2 = none) (label : Label) :
    s.completeTranslation m { r with part1 := missedPart r label } =
      s.replyRequest m { status := .unmapped, posted := false, data := Bytes8.zero } :=
  completeTranslation_of_failsWith (r := { r with part1 := missedPart r label }) hops (by simp [h2])
    (.inl (.inr ⟨rfl, rfl⟩))

/-- The SECOND part of an access is not found, the FIRST was TRANSLATED: the request replies UNMAPPED (R43, R53). -/
theorem completeTranslation_of_missed_second {s : State} {m : Master} {r : Request} (hops : r.ops = [])
    (h1 : r.part1.status = .translated) (label : Label) :
    s.completeTranslation m { r with part2 := some (missedPart r label) } =
      s.replyRequest m { status := .unmapped, posted := false, data := Bytes8.zero } := by
  refine completeTranslation_of_failsWith (r := { r with part2 := some (missedPart r label) }) hops ?_
    (.inr ⟨h1, _, rfl, .inr ⟨rfl, rfl⟩⟩)
  rintro p ⟨⟩
  exact nofun

/-- Settles O16: no window is found, and the part resolved as its lookup names it. -/
theorem searchFindsNoWindow : Obligations.SearchFindsNoWindow := by
  unfold Obligations.SearchFindsNoWindow
  refine ⟨?_, ?_⟩
  · rintro s c v m r hd ha hm hc hr hops hlast hu
    rw [exec_delivers_missed ⟨hd, ha⟩ hm hc hu]
    rcases hlast with ⟨hl, h2, hone⟩ | ⟨hl, h1⟩
    · rw [if_neg (by rw [hl]; nofun), resolveFirst_only_missed (searched_record hr _)
        (resolvedLabel_of_one_granule hone _),
        completeTranslation_of_missed_first hops h2, replyRequest_eq, hl]
      simp only [Vector.set_set]
      rfl
    · rw [if_pos hl, resolveSecond_missed (searched_record hr _), completeTranslation_of_missed_second hops h1,
        replyRequest_eq, hl]
      simp only [Vector.set_set]
      rfl
  · rintro s c v m r hd hm hc hr hg
    have hexec := exec_delivers_missed hd hm hc hg
    refine ⟨fun hl h2 => ?_, fun hl r' hr' => ?_⟩
    · rw [if_neg hl] at hexec
      rw [hexec]
      have hlabel := resolvedLabel_of_two_missed h2
      refine ⟨fun r' hr' hlt hs => ?_, fun r' x hr' hlt hs hx => ?_, fun r' hr' hpast => ?_⟩
      · subst hr'
        rw [resolveFirst_missed_miss (searched_record hr _) hlabel h2 hlt.ne hs]
        rfl
      · rw [resolveFirst_missed_hit (searched_record hr _) hlabel h2 hlt.ne hs hx hr']
        rfl
      · rw [resolveFirst_missed_past (searched_record hr _) hlabel (h2.trans hpast) hr']
        rfl
    · rw [if_pos hl] at hexec
      subst hr'
      rw [hexec, resolveSecond_missed (searched_record hr _)]
      rfl

end Sys2Proof.Machine
end

section
/-! SUPPORT. The laws of lookups, queue and tags (O59) in a form that each operation keeps: what a record waits for,
which work is ISSUED on a tag, and the order of the queue. -/

namespace Sys2Proof.Machine

/-! ## What a record in LOOKUP waits for (R34, R48) -/

/-- What a lookup has to agree with in the record it belongs to. -/
structure Wait where
  ctx : Ctx
  addr : LogAddr
  sizeM1 : BitVec 3
  noOps : Bool
  label1 : Label
  status1 : PartStatus
  status2 : Option PartStatus

/-- What a record in LOOKUP waits for; none in any other state. -/
def Request.wait (r : Request) : Option Wait :=
  match r.state with
  | .lookup => some { ctx := r.ctx, addr := r.addr, sizeM1 := r.sizeM1, noOps := r.ops.isEmpty
                      label1 := r.part1.label, status1 := r.part1.status, status2 := r.part2.map (·.status) }
  | .held => none
  | .active => none

/-- What record m waits for. -/
def State.waits (s : State) (m : Master) : Option Wait := (s.record m).bind Request.wait

/-- The lookup is one for what the record waits for. -/
def Lookup.fits (l : Lookup) (x : Wait) : Prop :=
  x.noOps = true ∧ l.ctx = x.ctx ∧
  (match l.label with
    | .second => l.granule.toNat = granule2 x.addr x.sizeM1 ∧ x.status1 ≠ .waiting ∧ x.status2 = some .waiting
    | .first => l.granule.toNat = granule1 x.addr ∧ x.status1 = .waiting ∧ x.label1 = .first ∧ x.status2 = none
    | .only => l.granule.toNat = granule1 x.addr ∧ x.status1 = .waiting ∧ x.label1 = .only ∧ x.status2 = none)

theorem wait_of_lookup {r : Request} (h : r.state = .lookup) :
    r.wait = some { ctx := r.ctx, addr := r.addr, sizeM1 := r.sizeM1, noOps := r.ops.isEmpty
                    label1 := r.part1.label, status1 := r.part1.status, status2 := r.part2.map (·.status) } := by
  simp [Request.wait, h]

theorem wait_eq_none {r : Request} : r.wait = none ↔ r.state ≠ .lookup := by
  cases h : r.state <;> simp [Request.wait, h]

theorem belongsTo_iff (l : Lookup) (r : Request) : l.belongsTo r ↔ ∃ x ∈ r.wait, l.fits x := by
  by_cases h : r.state = .lookup
  · rw [wait_of_lookup h]
    unfold Lookup.belongsTo Lookup.fits
    cases l.label <;> simp [h]
  · rw [wait_eq_none.2 h]
    simp [Lookup.belongsTo, h]

/-- The law of lookups, read from what the records wait for (R34, R48). -/
theorem lookupsMatchRecords_iff (s : State) :
    LookupsMatchRecords s ↔
      (s.lookups.map (·.master)).Nodup ∧ (∀ l ∈ s.lookups, ∃ x ∈ s.waits l.master, l.fits x) ∧
      (∀ m : Master, s.waits m ≠ none → ∃ l ∈ s.lookups, l.master = m) := by
  refine and_congr Iff.rfl (and_congr (forall₂_congr fun l _ => ?_) (forall_congr' fun m => ?_))
  · simp only [belongsTo_iff, State.waits, Option.mem_def, Option.bind_eq_some_iff]
    exact ⟨fun ⟨r, hr, x, hx, hf⟩ => ⟨x, ⟨r, hr, hx⟩, hf⟩, fun ⟨x, ⟨r, hr, hx⟩, hf⟩ => ⟨r, hr, x, hx, hf⟩⟩
  · cases hr : s.record m with
    | none => simp [State.waits, hr]
    | some r => simp [State.waits, hr, wait_eq_none]

/-- The law of lookups but for master m, whose translation is going on: it has no lookup, whatever its record holds. -/
structure LookupsBut (m : Master) (s : State) : Prop where
  nodup : (s.lookups.map (·.master)).Nodup
  fits : ∀ l ∈ s.lookups, l.master ≠ m ∧ ∃ x ∈ s.waits l.master, l.fits x
  found : ∀ m' : Master, m' ≠ m → s.waits m' ≠ none → ∃ l ∈ s.lookups, l.master = m'

/-- A record that waits for nothing has no lookup. -/
theorem lookupsBut_of_idle {s : State} {m : Master} (h : LookupsMatchRecords s) (hm : s.waits m = none) :
    LookupsBut m s := by
  obtain ⟨hn, hf, hw⟩ := (lookupsMatchRecords_iff s).1 h
  refine ⟨hn, fun l hl => ⟨?_, hf l hl⟩, fun m' _ => hw m'⟩
  rintro rfl
  obtain ⟨x, hx, -⟩ := hf l hl
  rw [hm] at hx
  exact nomatch hx

/-- A translation that ends with nothing to wait for restores the law. -/
theorem LookupsBut.ended {s : State} {m : Master} (h : LookupsBut m s) (hm : s.waits m = none) :
    LookupsMatchRecords s := by
  refine (lookupsMatchRecords_iff s).2 ⟨h.nodup, fun l hl => (h.fits l hl).2, fun m' hm' => ?_⟩
  by_cases e : m' = m
  · exact absurd (e ▸ hm) hm'
  · exact h.found m' e hm'

/-- A translation that goes on with a lookup of its own restores the law. -/
theorem LookupsBut.joined {s : State} {m : Master} {l : Lookup} (h : LookupsBut m s) (hl : l.master = m) {x : Wait}
    (hx : s.waits m = some x) (hf : l.fits x) : LookupsMatchRecords (s.joinWaitList l) := by
  have hperm : (s.joinWaitList l).lookups.Perm (l :: s.lookups) := by
    show (s.waitList ++ [l] ++ s.engine.live.toList).Perm (l :: (s.waitList ++ s.engine.live.toList))
    rw [List.append_assoc]
    exact List.perm_middle
  refine (lookupsMatchRecords_iff _).2 ⟨?_, fun l' hl' => ?_, fun m' hm' => ?_⟩
  · rw [(hperm.map _).nodup_iff, List.map_cons, List.nodup_cons]
    refine ⟨fun hmem => ?_, h.nodup⟩
    obtain ⟨l', hl', he⟩ := List.mem_map.1 hmem
    exact (h.fits l' hl').1 (he.trans hl)
  · rcases List.mem_cons.1 (hperm.mem_iff.1 hl') with rfl | hl'
    · exact ⟨x, hl ▸ hx, hf⟩
    · exact (h.fits l' hl').2
  · by_cases e : m' = m
    · exact ⟨l, hperm.mem_iff.2 List.mem_cons_self, e ▸ hl⟩
    · obtain ⟨l', hl', he⟩ := h.found m' e hm'
      exact ⟨l', hperm.mem_iff.2 (List.mem_cons_of_mem _ hl'), he⟩

/-! ## Work ISSUED on a tag (R77, R99, R116) -/

/-- An operation of the request for this word is ISSUED on tag k. -/
def Request.works (r : Request) (k : TagNo) (word : WordAddr) (work : Work) (label : Label) : Prop :=
  ∃ o ∈ r.ops, o.state = .issued k ∧ o.word = word ∧ o.work = work ∧ o.label = label

/-- Work of this owner is ISSUED on tag k; an orphan's work stands in its tag alone. -/
def State.works (s : State) (k : TagNo) (word : WordAddr) (work : Work) : Owner → Prop
  | .request m label => ∃ r ∈ s.record m, r.works k word work label
  | .pwqEntry => ∃ e ∈ s.pwq, e.state = .issued k ∧ e.word = word ∧ e.work = work
  | .orphan _ => False

/-- No two entries of the queue hold one tag. -/
def TagsDistinct (q : List Entry) : Prop :=
  q.Pairwise fun e e' => ∀ k : TagNo, e.state = .issued k → e'.state ≠ .issued k

theorem carries_iff (s : State) (k : TagNo) (word : WordAddr) (work : Work) (owner : Owner) :
    s.carries k word work owner ↔
      ∃ l, (s.tag k).state = .live l ∧ l.word = word ∧ l.work = work ∧ l.owner = owner := by
  unfold State.carries
  cases (s.tag k).state <;> simp

/-- On tag k the owner's work is ISSUED exactly when the tag carries it, unless the owner is an orphan. -/
def State.answersTo (s : State) (k : TagNo) : Prop :=
  ∀ word work owner, s.works k word work owner ↔
    s.carries k word work owner ∧ ∀ o : Orphan, owner ≠ .orphan o

/-- The law of tags and work, tag by tag (R116, R120). -/
theorem tagsMatchWork_iff (s : State) :
    TagsMatchWork s ↔ TagsDistinct s.pwq ∧ ∀ k, s.answersTo k := by
  constructor
  · rintro ⟨hop, hentry, hdist, hlive⟩
    refine ⟨hdist, fun k word work owner => ⟨fun h => ?_, fun ⟨h, hno⟩ => ?_⟩⟩
    · cases owner with
      | request m label =>
        obtain ⟨r, hr, o, ho, hst, rfl, rfl, rfl⟩ := h
        exact ⟨hop m r hr o ho k hst, nofun⟩
      | pwqEntry =>
        obtain ⟨e, he, hst, rfl, rfl⟩ := h
        exact ⟨hentry e he k hst, nofun⟩
      | orphan o => exact h.elim
    · obtain ⟨l, hl, rfl, rfl, rfl⟩ := (carries_iff s k word work owner).1 h
      have hk := hlive k
      rw [hl] at hk
      dsimp only at hk
      cases hown : l.owner with
      | orphan o => exact absurd hown (hno o)
      | pwqEntry =>
        rw [hown] at hk
        obtain ⟨e, he, hst⟩ := hk
        obtain ⟨l', hl', hw, hwk, -⟩ := (carries_iff ..).1 (hentry e he k hst)
        rw [hl] at hl'
        cases hl'
        exact ⟨e, he, hst, hw.symm, hwk.symm⟩
      | request m label =>
        rw [hown] at hk
        obtain ⟨r, hr, o, ho, hst⟩ := hk
        obtain ⟨l', hl', hw, hwk, how⟩ := (carries_iff ..).1 (hop m r hr o ho k hst)
        rw [hl] at hl'
        cases hl'
        rw [hown] at how
        cases how
        exact ⟨r, hr, o, ho, hst, hw.symm, hwk.symm, rfl⟩
  · rintro ⟨hdist, h⟩
    refine ⟨fun m r hr o ho k hst => ?_, fun e he k hst => ?_, hdist, fun k => ?_⟩
    · exact ((h k o.word o.work (.request m o.label)).1 ⟨r, hr, o, ho, hst, rfl, rfl, rfl⟩).1
    · exact ((h k e.word e.work .pwqEntry).1 ⟨e, he, hst, rfl, rfl⟩).1
    · cases hl : (s.tag k).state with
      | free => trivial
      | quarantined w => trivial
      | live l =>
        dsimp only
        have hc : s.carries k l.word l.work l.owner := (carries_iff ..).2 ⟨l, hl, rfl, rfl, rfl⟩
        cases hown : l.owner with
        | orphan o => trivial
        | pwqEntry =>
          obtain ⟨e, he, hst, -⟩ := (h k l.word l.work .pwqEntry).2 ⟨hown ▸ hc, nofun⟩
          exact ⟨e, he, hst⟩
        | request m label =>
          obtain ⟨r, hr, o, ho, hst, -⟩ := (h k l.word l.work (.request m label)).2 ⟨hown ▸ hc, nofun⟩
          exact ⟨r, hr, o, ho, hst⟩

/-- A tag that is LIVE with what it was, with the same work ISSUED on it, goes on answering to it. -/
theorem answersTo_congr {s t : State} {k : TagNo} (hk : ∀ l, (t.tag k).state = .live l ↔ (s.tag k).state = .live l)
    (hw : ∀ word work owner, t.works k word work owner ↔ s.works k word work owner) (h : s.answersTo k) :
    t.answersTo k := by
  intro word work owner
  have hc : t.carries k word work owner ↔ s.carries k word work owner := by
    rw [carries_iff, carries_iff]
    simp only [hk]
  rw [hw, hc]
  exact h word work owner

/-- A tag that carries no work of a request or an entry, with none ISSUED on it. -/
theorem answersTo_of_none {s : State} {k : TagNo}
    (hk : ∀ l, (s.tag k).state = .live l → ∃ o, l.owner = .orphan o)
    (hw : ∀ word work owner, ¬ s.works k word work owner) :
    s.answersTo k := by
  intro word work owner
  refine ⟨fun h => (hw _ _ _ h).elim, fun ⟨h, hno⟩ => ?_⟩
  obtain ⟨l, hl, -, -, rfl⟩ := (carries_iff ..).1 h
  obtain ⟨o, ho⟩ := hk l hl
  exact absurd ho (hno o)

/-- A tag that carries exactly the one work ISSUED on it. -/
theorem answersTo_of_one {s : State} {k : TagNo} {l : LiveWork} (hl : (s.tag k).state = .live l)
    (hno : ∀ o, l.owner ≠ .orphan o)
    (hw : ∀ word work owner, s.works k word work owner ↔ word = l.word ∧ work = l.work ∧ owner = l.owner) :
    s.answersTo k := by
  intro word work owner
  rw [hw, carries_iff]
  constructor
  · rintro ⟨rfl, rfl, rfl⟩
    exact ⟨⟨l, hl, rfl, rfl, rfl⟩, hno⟩
  · rintro ⟨⟨l', hl', rfl, rfl, rfl⟩, -⟩
    rw [hl] at hl'
    cases hl'
    exact ⟨rfl, rfl, rfl⟩

/-- The owner and the word of work ISSUED on a tag are those of the tag. -/
theorem works_live {s : State} {k : TagNo} {word : WordAddr} {work : Work} {owner : Owner} (h : s.answersTo k)
    (hw : s.works k word work owner) :
    ∃ l, (s.tag k).state = .live l ∧ l.word = word ∧ l.work = work ∧ l.owner = owner :=
  (carries_iff ..).1 ((h word work owner).1 hw).1

/-! ## The queue (R97) -/

theorem TagsDistinct.filter {q : List Entry} (h : TagsDistinct q) (p : Entry → Bool) : TagsDistinct (q.filter p) :=
  List.Pairwise.filter p h

/-- Entries that join QUEUED hold no tag. -/
theorem TagsDistinct.append {q es : List Entry} (h : TagsDistinct q) (hes : ∀ e ∈ es, e.state = .queued) :
    TagsDistinct (q ++ es) := by
  refine List.pairwise_append.2 ⟨h, List.pairwise_of_forall_mem_list fun e he e' _ k hk => ?_,
    fun e _ e' he' k _ hk => ?_⟩
  · rw [hes e he] at hk
    exact nomatch hk
  · rw [hes e' he'] at hk
    exact nomatch hk

/-- The order of the queue, of its entries and the next number alone (R97). -/
def QueueInOrder (q : List Entry) (next : Nat) : Prop :=
  q.length ≤ Config.pwqCapacity ∧ (q.map (·.id)).Nodup ∧ (∀ e ∈ q, e.id < next) ∧
    q.Pairwise fun e e' => e'.state ≠ .queued → e.state ≠ .queued

theorem pwqInOrder_iff (s : State) : PwqInOrder s ↔ QueueInOrder s.pwq s.nextEntry := Iff.rfl

theorem QueueInOrder.filter {q : List Entry} {n : Nat} (h : QueueInOrder q n) (p : Entry → Bool) :
    QueueInOrder (q.filter p) n := by
  obtain ⟨hlen, hids, hnext, hord⟩ := h
  exact ⟨(List.length_filter_le _ _).trans hlen, hids.sublist (List.filter_sublist.map _),
    fun e he => hnext e (List.mem_of_mem_filter he), hord.filter p⟩

/-- Entries changed with their numbers, and QUEUED or not as before. -/
theorem QueueInOrder.map {q : List Entry} {n : Nat} (h : QueueInOrder q n) {f : Entry → Entry}
    (hid : ∀ e, (f e).id = e.id) (hst : ∀ e, (f e).state = .queued ↔ e.state = .queued) : QueueInOrder (q.map f) n := by
  obtain ⟨hlen, hids, hnext, hord⟩ := h
  refine ⟨by simpa using hlen, ?_, fun e he => ?_, ?_⟩
  · have hcomp : (fun e : Entry => e.id) ∘ f = (·.id) := funext hid
    rw [List.map_map, hcomp]
    exact hids
  · obtain ⟨e', he', rfl⟩ := List.mem_map.1 he
    rw [hid]
    exact hnext e' he'
  · rw [List.pairwise_map]
    simpa only [ne_eq, hst] using hord

/-- Of two entries of the queue with one number there is one. -/
theorem QueueInOrder.eq_of_id {q : List Entry} {n : Nat} (h : QueueInOrder q n) {e e' : Entry} (he : e ∈ q)
    (he' : e' ∈ q) (hid : e.id = e'.id) : e = e' := List.inj_on_of_nodup_map h.2.1 he he' hid

end Sys2Proof.Machine
end

section
/-! SUPPORT. What the course of requests and entries leaves of the laws of O59: replies, failures at readiness and at
the head of the queue settle work without a change to the tags. -/

namespace Sys2Proof.Machine

/-- From s to t work is settled: the tags, the tables and the lookups stand, the same work is ISSUED, the queue stays in
order, and every record waits for what it did, but for that of x. -/
structure Settles (x : Option Master) (s t : State) : Prop extends KeepsPort s t where
  waits : ∀ m, x ≠ some m → t.waits m = s.waits m
  works : ∀ k word work owner, t.works k word work owner ↔ s.works k word work owner
  distinct : TagsDistinct s.pwq → TagsDistinct t.pwq
  queue : PwqInOrder s → PwqInOrder t

theorem Settles.refl (s : State) : Settles none s s := ⟨.refl s, fun _ _ => rfl, fun _ _ _ _ => Iff.rfl, id, id⟩

theorem Settles.trans {x : Option Master} {s t u : State} (h : Settles x s t) (k : Settles x t u) : Settles x s u :=
  ⟨h.toKeepsPort.trans k.toKeepsPort, fun m hm => (k.waits m hm).trans (h.waits m hm),
    fun _ _ _ _ => (k.works ..).trans (h.works ..), fun hd => k.distinct (h.distinct hd),
    fun hq => k.queue (h.queue hq)⟩

theorem Settles.but {s t : State} (h : Settles none s t) (x : Option Master) : Settles x s t :=
  ⟨h.toKeepsPort, fun m _ => h.waits m nofun, h.works, h.distinct, h.queue⟩

/-- A change of the log, of the drain or of the messages settles nothing. -/
theorem settles_of_same {s t : State} (h : KeepsPort s t) (hr : t.records = s.records) (hp : t.pwq = s.pwq)
    (hn : t.nextEntry = s.nextEntry) : Settles none s t := by
  have hrec : t.record = s.record := by
    funext m
    simp [State.record, hr]
  refine ⟨h, fun m _ => by rw [State.waits, State.waits, hrec], fun k word work owner => ?_, fun hd => hp ▸ hd,
    fun hq => ?_⟩
  · cases owner <;> simp [State.works, hrec, hp]
  · rw [pwqInOrder_iff, hp, hn]
    exact hq

theorem settles_handIn (s : State) (b : FaultBody) : Settles none s (s.handIn b) :=
  settles_of_same (keepsPort_handIn s b) rfl rfl rfl

theorem settles_handInAll (s : State) (bs : List FaultBody) : Settles none s (s.handInAll bs) := by
  refine settles_of_same (keepsPort_handInAll s bs) ?_ ?_ ?_ <;> rw [handInAll_eq]

theorem settles_sendReply (s : State) (m : Master) (y : Reply) : Settles none s (s.sendReply m y) :=
  settles_of_same (keepsPort_sendReply s m y) rfl rfl rfl

theorem settles_drainUpdate (s : State) (f : DrainJob → Member → Option Member) : Settles none s (s.drainUpdate f) :=
  settles_of_same (keepsPort_drainUpdate s f) rfl rfl rfl

/-! ## Records -/

theorem setRecord_waits (s : State) (m m' : Master) (r : Option Request) :
    (s.setRecord m r).waits m' = if m = m' then r.bind Request.wait else s.waits m' := by
  rw [State.waits, setRecord_record, State.waits]
  split <;> rfl

/-- The work of a record just written is what its request has. -/
theorem setRecord_works_request (s : State) (m m' : Master) (r : Option Request) (k : TagNo) (word : WordAddr)
    (work : Work) (label : Label) :
    (s.setRecord m r).works k word work (.request m' label) ↔
      if m = m' then ∃ x ∈ r, x.works k word work label else s.works k word work (.request m' label) := by
  simp only [State.works, setRecord_record]
  split <;> rfl

/-- A record written with the same work ISSUED; what it waits for may change for master x alone. -/
theorem settles_setRecord {x : Option Master} {s : State} {m : Master} {r : Option Request}
    (hw : x ≠ some m → r.bind Request.wait = s.waits m)
    (hk : ∀ k word work label, (∃ y ∈ r, y.works k word work label) ↔ s.works k word work (.request m label)) :
    Settles x s (s.setRecord m r) := by
  refine ⟨keepsPort_setRecord s m r, fun m' hm' => ?_, fun k word work owner => ?_, id, id⟩
  · rw [setRecord_waits]
    split
    · next e => exact e ▸ hw (e ▸ hm')
    · rfl
  · cases owner with
    | request m' label =>
      rw [setRecord_works_request]
      split
      · next e => exact e ▸ hk k word work label
      · rfl
    | pwqEntry => rfl
    | orphan o => rfl

/-- A request whose operations are DONE or PENDING has no work ISSUED. -/
theorem not_works_of_ops {r : Request} (h : ∀ o ∈ r.ops, ∀ k, o.state ≠ .issued k) (k : TagNo) (word : WordAddr)
    (work : Work) (label : Label) : ¬ r.works k word work label := by
  rintro ⟨o, ho, hst, -⟩
  exact h o ho k hst

theorem finished_ops {r : Request} (h : r.finished = true) :
    r.state ≠ .lookup ∧ ∀ o ∈ r.ops, ∀ k, o.state ≠ .issued k := by
  unfold Request.finished at h
  have hall : ∀ {l : List WordOp}, l.all (·.state.isDone) = true → ∀ o ∈ l, ∀ k, o.state ≠ .issued k :=
    fun hl o ho k he => by
      have := List.all_eq_true.1 hl o ho
      rw [he] at this
      exact Bool.false_ne_true this
  split at h
  · exact nomatch h
  · next hs => exact ⟨by simp [hs], hall h⟩
  · next hs => exact ⟨by simp [hs], hall h⟩

/-- A request leaves its record with a reply when none of its work is ISSUED (R61). -/
theorem settles_replyRequest {x : Option Master} {s : State} {m : Master} (hw : x ≠ some m → s.waits m = none)
    (hk : ∀ r ∈ s.record m, ∀ o ∈ r.ops, ∀ k, o.state ≠ .issued k) (y : Reply) :
    Settles x s (s.replyRequest m y) := by
  have hset : Settles x (s.sendReply m y) ((s.sendReply m y).setRecord m none) := by
    refine settles_setRecord (fun hx => (hw hx).symm) fun k word work label => ?_
    refine ⟨fun ⟨_, h, _⟩ => (nomatch h), fun ⟨r, hr, h⟩ => ?_⟩
    exact (not_works_of_ops (hk r hr) _ _ _ _ h).elim
  exact (((settles_sendReply s m y).but x).trans hset).trans ((settles_drainUpdate _ _).but x)

theorem settles_finishRequest (s : State) (m : Master) : Settles none s (s.finishRequest m) := by
  unfold State.finishRequest
  split
  · exact .refl s
  · next r hr =>
    split
    · next hf =>
      obtain ⟨hst, hops⟩ := finished_ops hf
      refine settles_replyRequest (fun _ => ?_) (fun r' hr' => ?_) _
      · rw [State.waits, hr]
        exact wait_eq_none.2 hst
      · rw [hr] at hr'
        cases hr'
        exact hops
    · exact .refl s

/-! ## Failures at readiness (R74) -/

/-- Failing at readiness leaves an operation's state, or turns PENDING to DONE, and nothing else. -/
theorem timeoutOp_cases (s : State) (o : WordOp) :
    s.timeoutOp o = o ∨
      o.state = .pending ∧ ∃ t, s.quarantinedBy o.word = some t ∧
        s.timeoutOp o = { o with state := .done (.failed .timeout) (some t) } := by
  cases h : s.failsAtReadiness o with
  | none => exact .inl (timeoutOp_of_none h)
  | some t =>
    by_cases hp : o.state = .pending
    · exact .inr ⟨hp, t, (failsAtReadiness_of_pending hp).symm.trans h, timeoutOp_of_some h⟩
    · rw [failsAtReadiness_of_not_pending hp] at h
      exact nomatch h

theorem timeoutOp_issued (s : State) (o : WordOp) (k : TagNo) :
    (s.timeoutOp o).state = .issued k ↔ o.state = .issued k := by
  rcases timeoutOp_cases s o with h | ⟨hp, t, -, h⟩
  · rw [h]
  · simp [h, hp]

theorem timeoutOp_of_issued {s : State} {o : WordOp} {k : TagNo} (h : o.state = .issued k) : s.timeoutOp o = o := by
  rcases timeoutOp_cases s o with h' | ⟨hp, -⟩
  · exact h'
  · rw [h] at hp
    exact nomatch hp

theorem works_map_timeoutOp (s : State) (r : Request) (k : TagNo) (word : WordAddr) (work : Work) (label : Label) :
    Request.works { r with ops := r.ops.map s.timeoutOp } k word work label ↔ r.works k word work label := by
  unfold Request.works
  simp only [List.mem_map, exists_exists_and_eq_and, timeoutOp_issued]
  refine exists_congr fun o => and_congr_right fun _ => and_congr_right fun hst => ?_
  rw [timeoutOp_of_issued hst]

theorem settles_judgeReadiness (s : State) (m : Master) : Settles none s (s.judgeReadiness m) := by
  unfold State.judgeReadiness
  split
  · exact .refl s
  · next r hr =>
    refine ((settles_handInAll s _).trans (settles_setRecord (fun _ => ?_) fun k word work label => ?_)).trans
      (settles_finishRequest _ m)
    · rw [(settles_handInAll s _).waits m nofun, State.waits, hr]
      cases hs : r.state <;> simp [Request.wait, hs]
    · rw [(settles_handInAll s _).works]
      simp only [State.works, hr, Option.mem_def, Option.some.injEq, exists_eq_left', works_map_timeoutOp]

/-! ## Entries that leave (R101, R104) -/

theorem forget_wait (id : Nat) (r : Request) : (r.forget id).wait = r.wait := by
  cases hs : r.state <;> cases h2 : r.part2 <;> simp [Request.wait, Request.forget, Part.forget, hs, h2]

theorem forget_works (id : Nat) (r : Request) (k : TagNo) (word : WordAddr) (work : Work) (label : Label) :
    (r.forget id).works k word work label ↔ r.works k word work label := by
  unfold Request.works Request.forget
  simp [WordOp.forget]

theorem leaveEntry_waits (s : State) (id : Nat) (m : Master) : (s.leaveEntry id).waits m = s.waits m := by
  rw [State.waits, leaveEntry_record, State.waits]
  cases s.record m with
  | none => rfl
  | some r => exact forget_wait id r

theorem leaveEntry_works_request (s : State) (id : Nat) (k : TagNo) (word : WordAddr) (work : Work) (m : Master)
    (label : Label) :
    (s.leaveEntry id).works k word work (.request m label) ↔ s.works k word work (.request m label) := by
  simp only [State.works, leaveEntry_record]
  cases s.record m with
  | none => rfl
  | some r =>
    simp only [Option.map_some, Option.mem_def, Option.some.injEq, exists_eq_left']
    exact forget_works id r k word work label

/-- The work of the entries that stay. -/
theorem leaveEntry_works_entry (s : State) (id : Nat) (k : TagNo) (word : WordAddr) (work : Work) :
    (s.leaveEntry id).works k word work .pwqEntry ↔
      ∃ e ∈ s.pwq, e.id ≠ id ∧ e.state = .issued k ∧ e.word = word ∧ e.work = work := by
  show (∃ e ∈ s.pwq.filter (·.id ≠ id), _) ↔ _
  simp only [List.mem_filter, decide_eq_true_eq, and_assoc]

/-- A QUEUED entry that leaves takes no work ISSUED with it (R101). -/
theorem settles_leaveEntry {s : State} {e : Entry} (hq : PwqInOrder s) (he : e ∈ s.pwq) (hst : e.state = .queued) :
    Settles none s (s.leaveEntry e.id) := by
  refine ⟨keepsPort_leaveEntry s e.id, fun m _ => leaveEntry_waits s e.id m, fun k word work owner => ?_,
    fun hd => hd.filter _, fun hq => QueueInOrder.filter hq _⟩
  cases owner with
  | request m label => exact leaveEntry_works_request ..
  | orphan o => rfl
  | pwqEntry =>
    rw [leaveEntry_works_entry]
    refine exists_congr fun e' => and_congr_right fun he' => ⟨fun h => h.2, fun h => ⟨fun hid => ?_, h⟩⟩
    have := QueueInOrder.eq_of_id hq he' he hid
    rw [this, hst] at h
    exact nomatch h.1

theorem settles_failEntry {s : State} {e : Entry} (hq : PwqInOrder s) (he : e ∈ s.pwq) (hst : e.state = .queued)
    (c : Cause) (t : TagNo) : Settles none s (s.failEntry e c t) :=
  (settles_handIn s _).trans (settles_leaveEntry (s := s.handIn (postedFault e c t)) hq he hst)

theorem settles_settleHeadUpTo (n : Nat) : ∀ s : State, PwqInOrder s → Settles none s (settleHeadUpTo n s) := by
  induction n with
  | zero => exact fun s _ => .refl s
  | succ n ih =>
    intro s hq
    unfold settleHeadUpTo
    split
    · exact .refl s
    · next e ho =>
      split
      · exact .refl s
      · next t _ =>
        obtain ⟨he, hst⟩ := oldestQueued_mem ho
        have hf := settles_failEntry hq he hst .timeout t
        exact hf.trans (ih _ (hf.queue hq))

theorem settles_settleHead {s : State} (hq : PwqInOrder s) : Settles none s s.settleHead :=
  settles_settleHeadUpTo _ s hq

/-! ## The laws of O59 over settled work -/

/-- The laws of O59 but that of lookups. -/
structure PortLaws (s : State) : Prop where
  queue : PwqInOrder s
  tags : TagsMatchWork s
  words : WordsHeldOnce s
  clear : ClearHasNoLiveTag s

/-- The laws of words and of the clear read the port alone (R112, R117). -/
theorem wordsHeldOnce_congr {s t : State} (h : t.port.tags = s.port.tags) (hs : WordsHeldOnce s) : WordsHeldOnce t := by
  unfold WordsHeldOnce State.tag
  rw [h]
  exact hs

theorem clearHasNoLiveTag_congr {s t : State} (h : t.port.tags = s.port.tags) (hb : t.port.back = s.port.back)
    (hs : ClearHasNoLiveTag s) : ClearHasNoLiveTag t := by
  unfold ClearHasNoLiveTag State.anyLive State.tag
  rw [h, hb]
  exact hs

theorem tag_congr {s t : State} (h : t.port.tags = s.port.tags) (k : TagNo) : t.tag k = s.tag k := by
  rw [State.tag, State.tag, h]

theorem Settles.portLaws {x : Option Master} {s t : State} (h : Settles x s t) (hs : PortLaws s) : PortLaws t := by
  have htags := congrArg Port.tags h.port
  obtain ⟨hd, ha⟩ := (tagsMatchWork_iff s).1 hs.tags
  exact ⟨h.queue hs.queue,
    (tagsMatchWork_iff t).2 ⟨h.distinct hd, fun k =>
      answersTo_congr (fun l => by rw [tag_congr htags]) (h.works k) (ha k)⟩,
    wordsHeldOnce_congr htags hs.words, clearHasNoLiveTag_congr htags (congrArg Port.back h.port) hs.clear⟩

theorem lookups_congr {s t : State} (hw : t.waitList = s.waitList) (he : t.engine = s.engine) :
    t.lookups = s.lookups := by
  rw [State.lookups, State.lookups, hw, he]

/-- The law of lookups, from the lookups and what the records wait for. -/
theorem lookupsMatchRecords_congr {s t : State} (hl : t.lookups = s.lookups) (hw : ∀ m, t.waits m = s.waits m)
    (h : LookupsMatchRecords s) : LookupsMatchRecords t := by
  rw [lookupsMatchRecords_iff] at h ⊢
  simpa only [hl, hw] using h

theorem LookupsBut.congr {s t : State} {m : Master} (hl : t.lookups = s.lookups)
    (hw : ∀ m', some m ≠ some m' → t.waits m' = s.waits m') (h : LookupsBut m s) : LookupsBut m t := by
  refine ⟨hl ▸ h.nodup, fun l hm => ?_, fun m' hne => ?_⟩
  · rw [hl] at hm
    obtain ⟨hne, hx⟩ := h.fits l hm
    rw [hw _ fun e => hne (Option.some.inj e).symm]
    exact ⟨hne, hx⟩
  · rw [hw m' fun e => hne (Option.some.inj e).symm, hl]
    exact h.found m' hne

theorem Settles.lookupsMatchRecords {s t : State} (h : Settles none s t) (hs : LookupsMatchRecords s) :
    LookupsMatchRecords t :=
  lookupsMatchRecords_congr (lookups_congr h.waitList h.engine) (fun m => h.waits m nofun) hs

theorem Settles.lookupsBut {m : Master} {s t : State} (h : Settles (some m) s t) (hs : LookupsBut m s) :
    LookupsBut m t :=
  hs.congr (lookups_congr h.waitList h.engine) h.waits

/-- The laws of O59 together. -/
structure WorkLaws (s : State) : Prop extends PortLaws s where
  lookups : LookupsMatchRecords s

theorem Settles.workLaws {s t : State} (h : Settles none s t) (hs : WorkLaws s) : WorkLaws t :=
  ⟨h.portLaws hs.toPortLaws, h.lookupsMatchRecords hs.lookups⟩

end Sys2Proof.Machine
end

section
/-! SUPPORT. How a translation goes on, said once, and the laws of O59 over it. -/

namespace Sys2Proof.Machine

/-! ## The two ways a translation goes on (R24 to R31, R43) -/

/-- A window copy that the translation of r in record m may leave in a part: one r had, the window found, or that of the
stream record. -/
def State.mayCopy (s : State) (m : Master) (r : Request) (found : Option WinCopy) (w : WinCopy) : Prop :=
  (∃ p ∈ r.parts, w ∈ p.copy) ∨ found = some w ∨ s.stream m = some { ctx := r.ctx, win := w }

/-- The state in which the parts of request r in record m have become p1 and p2, with these faults handed in. -/
def State.withParts (s : State) (m : Master) (r : Request) (p1 : Part) (p2 : Option Part) (bs : List FaultBody) :
    State :=
  { s with
    records := s.records.set m (some { r with part1 := p1, part2 := p2 })
    log := bs.foldl FaultLog.handIn s.log }

/-- The translation of request r in record m goes on: its last part is resolved, or its SECOND part is looked up. -/
inductive TranslationGoesOn (s : State) (m : Master) (r : Request) (found : Option WinCopy) : State → Prop
  | resolved (bs : List FaultBody) (p1 : Part) (p2 : Option Part) (h1 : p1.status ≠ .waiting)
      (h2 : ∀ p ∈ p2, p.status ≠ .waiting)
      (hc : ∀ p, p = p1 ∨ p ∈ p2 → ∀ w ∈ p.copy, s.mayCopy m r found w) :
      TranslationGoesOn s m r found
        ((s.withParts m r p1 p2 bs).completeTranslation m { r with part1 := p1, part2 := p2 })
  | lookedUp (bs : List FaultBody) (p1 : Part) (h1 : p1.status ≠ .waiting)
      (hg : granule2 r.addr r.sizeM1 < 65536) (hc : ∀ w ∈ p1.copy, s.mayCopy m r found w) :
      TranslationGoesOn s m r found
        ((s.withParts m r p1 (some (secondPart r)) bs).joinWaitList
          { master := m, ctx := r.ctx, granule := BitVec.ofNat 16 (granule2 r.addr r.sizeM1), label := .second })

theorem resolvePart_status (s : State) (r : Request) (p : Part) (found : Option WinCopy) :
    (s.resolvePart r p found).status ≠ .waiting := by
  unfold State.resolvePart
  split
  · nofun
  · split <;> nofun

theorem resolvePart_copy (s : State) (r : Request) (p : Part) (found : Option WinCopy) :
    (s.resolvePart r p found).copy = found := by
  unfold State.resolvePart
  split
  · rfl
  · split <;> rfl

theorem streamHit_stream {s : State} {m : Master} {c : Ctx} {g : Nat} {w : WinCopy} (h : s.streamHit m c g = some w) :
    s.stream m = some { ctx := c, win := w } := by
  unfold State.streamHit at h
  split at h
  · exact nomatch h
  · next x hx =>
    split at h
    · next hc =>
      cases h
      rw [hx, ← hc.1]
    · exact nomatch h

theorem granule2_le (a : LogAddr) (n : BitVec 3) : granule2 a n ≤ 65536 := by
  have := a.isLt
  have := n.isLt
  unfold granule2
  omega

/-- A SECOND part is resolved (R28, R43). -/
theorem resolveSecond_goesOn {s : State} {m : Master} {r : Request} (hr : s.record m = some r)
    (h1 : r.part1.status ≠ .waiting) (found : Option WinCopy) :
    TranslationGoesOn s m r found (s.resolveSecond m found) := by
  unfold State.resolveSecond
  simp only [hr, handInOption_eq]
  refine .resolved (resolutionFault m r .second found).toList r.part1
    (some (s.resolvePart r (secondPart r) found)) h1 ?_ ?_
  · rintro p ⟨⟩
    exact resolvePart_status _ _ _ _
  · rintro p (rfl | hp) w hw
    · exact .inl ⟨r.part1, by simp [Request.parts], hw⟩
    · cases hp
      rw [resolvePart_copy] at hw
      exact .inr (.inl hw)

/-- A SECOND part's translation begins (R25, R31). -/
theorem beginSecond_goesOn {s : State} {m : Master} {r : Request} (hr : s.record m = some r)
    (h1 : r.part1.status ≠ .waiting) :
    ∃ found, (∀ w, found = some w → s.stream m = some { ctx := r.ctx, win := w }) ∧
      TranslationGoesOn s m r found (s.beginSecond m) := by
  unfold State.beginSecond
  simp only [hr]
  split
  · exact ⟨none, nofun, resolveSecond_goesOn hr h1 none⟩
  · next hg =>
    split
    · next w hw =>
      refine ⟨some w, ?_, resolveSecond_goesOn hr h1 (some w)⟩
      rintro _ ⟨⟩
      exact streamHit_stream hw
    · refine ⟨none, nofun, .lookedUp [] r.part1 h1 (lt_of_le_of_ne (granule2_le _ _) hg) fun w hw => ?_⟩
      exact .inl ⟨r.part1, by simp [Request.parts], hw⟩

/-- A translation that goes on once the first part has become p1 goes on from before it. -/
theorem TranslationGoesOn.after_first {s u : State} {m : Master} {r : Request} {found f : Option WinCopy} {p1 : Part}
    {bs : List FaultBody} (h2 : r.part2 = none) (hp : p1.copy = found)
    (hf : ∀ w, f = some w → s.stream m = some { ctx := r.ctx, win := w })
    (h : TranslationGoesOn (s.withParts m r p1 none bs) m { r with part1 := p1 } f u) :
    TranslationGoesOn s m r found u := by
  have hcopy : ∀ w, (s.withParts m r p1 none bs).mayCopy m { r with part1 := p1 } f w → s.mayCopy m r found w := by
    rintro w (⟨p, hpm, hw⟩ | hw | hw)
    · obtain rfl : p = p1 := by simpa [Request.parts, h2] using hpm
      exact .inr (.inl (hp ▸ hw))
    · exact .inr (.inr (hf w hw))
    · exact .inr (.inr hw)
  have hset : ∀ q1 q2 bs', (s.withParts m r p1 none bs).withParts m { r with part1 := p1 } q1 q2 bs' =
      s.withParts m r q1 q2 (bs ++ bs') := by
    intro q1 q2 bs'
    simp only [State.withParts, Vector.set_set, List.foldl_append]
  cases h with
  | resolved bs' q1 q2 hw1 hw2 hc =>
    rw [hset]
    exact .resolved (bs ++ bs') q1 q2 hw1 hw2 fun p hp w hw => hcopy w (hc p hp w hw)
  | lookedUp bs' q1 hw1 hg hc =>
    rw [hset]
    exact .lookedUp (bs ++ bs') q1 hw1 hg fun w hw => hcopy w (hc w hw)

/-- A first part is resolved (R24, R28, R31). -/
theorem resolveFirst_goesOn {s : State} {m : Master} {r : Request} (hr : s.record m = some r) (h2 : r.part2 = none)
    (found : Option WinCopy) : TranslationGoesOn s m r found (s.resolveFirst m found) := by
  unfold State.resolveFirst
  simp only [hr, handInOption_eq]
  have hlater : ∀ (p : Part) (bs : List FaultBody), TranslationGoesOn s m r found
      ((s.withParts m r (s.resolvePart r p found) none bs).beginSecond m) := by
    intro p bs
    obtain ⟨f, hf, h⟩ := beginSecond_goesOn (s := s.withParts m r (s.resolvePart r p found) none bs)
      (m := m) (r := { r with part1 := s.resolvePart r p found }) (by simp [State.withParts, State.record, h2])
      (resolvePart_status _ _ _ _)
    exact h.after_first h2 (resolvePart_copy ..) hf
  have hparts : ∀ (p : Part) (bs : List FaultBody), s.withParts m r p none bs =
      State.setRecord { s with log := bs.foldl FaultLog.handIn s.log } m (some { r with part1 := p }) := by
    intro p bs
    rw [State.withParts, ← h2]
    rfl
  split
  · have h := TranslationGoesOn.resolved (s := s) (m := m) (r := r) (found := found)
      (resolutionFault m r (resolvedLabel r.addr r.sizeM1 found) found).toList
      (s.resolvePart r { r.part1 with
        label := resolvedLabel r.addr r.sizeM1 found
        lanes := partLanes (resolvedLabel r.addr r.sizeM1 found) r.addr r.sizeM1 } found)
      none (resolvePart_status _ _ _ _) nofun (by
        rintro p (rfl | hp) w hw
        · rw [resolvePart_copy] at hw
          exact .inr (.inl hw)
        · exact nomatch hp)
    rw [hparts, ← h2] at h
    exact h
  · rw [← hparts]
    exact hlater _ _
  · rw [← hparts]
    exact hlater _ _

/-! ## The entries of a posted WRITE (R57, R96) -/

/-- The entries of a posted WRITE join QUEUED, each made from an operation of the request. -/
theorem mem_entriesOf {m : Master} {r : Request} {e : Entry} : ∀ {ops : List WordOp} {id : Nat},
    e ∈ entriesOf m r id ops → ∃ o ∈ ops, ∃ i, e = entryOf m r i o
  | [], _, h => nomatch h
  | o :: rest, id, h => by
    rcases List.mem_cons.1 h with rfl | h
    · exact ⟨o, List.mem_cons_self, id, rfl⟩
    · obtain ⟨o', ho', hi⟩ := mem_entriesOf h
      exact ⟨o', List.mem_cons_of_mem _ ho', hi⟩

theorem entriesOf_ids (m : Master) (r : Request) : ∀ (ops : List WordOp) (id : Nat),
    (entriesOf m r id ops).map (·.id) = List.range' id ops.length
  | [], _ => rfl
  | o :: rest, id => by
    rw [entriesOf, List.map_cons, entriesOf_ids m r rest (id + 1), List.length_cons, List.range'_succ]
    rfl

theorem entriesOf_length (m : Master) (r : Request) (ops : List WordOp) (id : Nat) :
    (entriesOf m r id ops).length = ops.length := by
  simpa using congrArg List.length (entriesOf_ids m r ops id)

/-- Entries that join QUEUED at the tail, numbered on, keep the queue in order where there is room (R97, R98). -/
theorem QueueInOrder.append {q es : List Entry} {n : Nat} (h : QueueInOrder q n)
    (hlen : q.length + es.length ≤ Config.pwqCapacity) (hids : es.map (·.id) = List.range' n es.length)
    (hst : ∀ e ∈ es, e.state = .queued) : QueueInOrder (q ++ es) (n + es.length) := by
  obtain ⟨-, hq, hnext, hord⟩ := h
  have hmem : ∀ e ∈ es, n ≤ e.id ∧ e.id < n + es.length := fun e he => by
    have := List.mem_map_of_mem (f := (·.id)) he
    rw [hids, List.mem_range'_1] at this
    exact this
  refine ⟨by simpa using hlen, ?_, fun e he => ?_, ?_⟩
  · rw [List.map_append, List.nodup_append, hids]
    refine ⟨hq, List.nodup_range', fun a ha b hb => ?_⟩
    obtain ⟨e, he, rfl⟩ := List.mem_map.1 ha
    have := (List.mem_range'_1.1 hb).1
    have := hnext e he
    omega
  · rcases List.mem_append.1 he with he | he
    · have := hnext e he
      omega
    · exact (hmem e he).2
  · refine List.pairwise_append.2 ⟨hord, ?_, fun e _ e' he' h => (h (hst e' he')).elim⟩
    exact List.pairwise_of_forall_mem_list fun e _ e' he' h => (h (hst e' he')).elim

theorem mayPost_room {s : State} {r : Request} (h : s.mayPost r = true) :
    s.pwq.length + (requestOps r).length ≤ Config.pwqCapacity := by
  unfold State.mayPost at h
  rw [Bool.and_eq_true, decide_eq_true_iff] at h
  exact h.2

/-! ## The end of a translation, and what it settles (R43, R53) -/

/-- With no part WAITING the request is HELD, posted or replied to (R43, R54, R56). -/
theorem completeTranslation_cases {s : State} {m : Master} {r : Request}
    (h : r.part1.status ≠ .waiting ∧ ∀ p ∈ r.part2, p.status ≠ .waiting) :
    s.completeTranslation m r = s.holdRequest m r ∨
      s.mayPost r = true ∧ s.completeTranslation m r = s.postRequest m r ∨
      s.completeTranslation m r = s.replyRequest m (composeReply r) := by
  have hw : ¬ r.parts.any (fun p => p.status = .waiting) = true := by
    rw [any_waiting_iff]
    rintro (h1 | ⟨p, hp, hpw⟩)
    · exact h.1 h1
    · exact h.2 p hp hpw
  unfold State.completeTranslation
  rw [if_neg hw]
  split
  · split
    · exact .inl rfl
    · split
      · next hp => exact .inr (.inl ⟨hp, rfl⟩)
      · exact .inl rfl
  · exact .inr (.inr rfl)

/-- The state in which a WRITE was posted, before the head of the queue is judged (R57). -/
def State.posted (s : State) (m : Master) (r : Request) : State :=
  { s with
    pwq := s.pwq ++ entriesOf m r s.nextEntry (requestOps r)
    nextEntry := s.nextEntry + (entriesOf m r s.nextEntry (requestOps r)).length
    records := s.records.set m none
    drain := s.drain.update fun job =>
      Member.afterPosting m (qualifyingEntries job (entriesOf m r s.nextEntry (requestOps r)))
    out := { s.out with replies := s.out.replies.set m (some postedReply) } }

theorem postRequest_eq_settleHead (s : State) (m : Master) (r : Request) :
    s.postRequest m r = (s.posted m r).settleHead := rfl

/-- No work is ISSUED for a record without operations. -/
theorem not_works_of_noOps {s : State} {m : Master} {r : Request} (hr : s.record m = some r) (hops : r.ops = [])
    (k : TagNo) (word : WordAddr) (work : Work) (label : Label) : ¬ s.works k word work (.request m label) := by
  rintro ⟨r', hr', o, ho, -⟩
  rw [hr] at hr'
  cases hr'
  rw [hops] at ho
  exact nomatch ho

theorem settles_posted {s : State} {m : Master} {r r' : Request} (hr : s.record m = some r') (hops : r'.ops = [])
    (hroom : s.mayPost r = true) : Settles (some m) s (s.posted m r) := by
  have hst : ∀ e ∈ entriesOf m r s.nextEntry (requestOps r), e.state = .queued := fun e he => by
    obtain ⟨o, -, i, rfl⟩ := mem_entriesOf he
    rfl
  have hlen := entriesOf_length m r (requestOps r) s.nextEntry
  refine ⟨⟨⟨rfl, rfl, rfl, rfl, rfl, rfl, rfl, rfl, rfl⟩, rfl, rfl⟩, fun m' hne => ?_, fun k word work owner => ?_,
    fun hd => hd.append hst, fun hq => ?_⟩
  · have := setRecord_waits s m m' none
    rwa [if_neg fun e => hne (congrArg some e)] at this
  · cases owner with
    | request m' label =>
      refine (setRecord_works_request s m m' none k word work label).trans ?_
      split
      · next e => simpa using e ▸ not_works_of_noOps hr hops k word work label
      · rfl
    | orphan o => rfl
    | pwqEntry =>
      show (∃ e ∈ s.pwq ++ _, _) ↔ ∃ e ∈ s.pwq, _
      simp only [List.mem_append, or_and_right, exists_or]
      refine or_iff_left ?_
      rintro ⟨e, he, hk, -⟩
      rw [hst e he] at hk
      exact nomatch hk
  · have hroom := mayPost_room hroom
    exact QueueInOrder.append hq (by omega) (by rw [entriesOf_ids, hlen]) hst

theorem heldRequest_works (s : State) (r : Request) (k : TagNo) (word : WordAddr) (work : Work) (label : Label) :
    ¬ (s.heldRequest r).works k word work label :=
  not_works_of_ops (fun o ho k he => by
    rw [translatedOps_pending ho] at he
    exact nomatch he) k word work label

/-- The end of a translation settles work but for its own record, which waits for nothing any more. -/
theorem settles_completeTranslation {s : State} {m : Master} {r r' : Request} (hq : PwqInOrder s)
    (hr : s.record m = some r') (hops : r'.ops = [])
    (h : r.part1.status ≠ .waiting ∧ ∀ p ∈ r.part2, p.status ≠ .waiting) :
    Settles (some m) s (s.completeTranslation m r) ∧ (s.completeTranslation m r).waits m = none := by
  rcases completeTranslation_cases (s := s) (m := m) h with he | ⟨hroom, he⟩ | he
  · rw [he, holdRequest_eq_judge]
    have hset : Settles (some m) s (s.setRecord m (some (s.heldRequest r))) := by
      refine settles_setRecord (fun h => (h rfl).elim) fun k word work label => ?_
      simpa [heldRequest_works] using not_works_of_noOps hr hops k word work label
    have hjudge := settles_judgeReadiness (s.setRecord m (some (s.heldRequest r))) m
    refine ⟨hset.trans (hjudge.but _), ?_⟩
    rw [hjudge.waits m nofun, setRecord_waits, if_pos rfl]
    rfl
  · rw [he, postRequest_eq_settleHead]
    have hpost := settles_posted hr hops hroom
    have hhead := settles_settleHead (hpost.queue hq)
    refine ⟨hpost.trans (hhead.but _), ?_⟩
    rw [hhead.waits m nofun]
    exact (setRecord_waits s m m none).trans (if_pos rfl)
  · rw [he]
    refine ⟨settles_replyRequest (fun h => (h rfl).elim) (fun r'' hr'' o ho => ?_) _,
      (setRecord_waits s m m none).trans (if_pos rfl)⟩
    rw [hr] at hr''
    cases hr''
    rw [hops] at ho
    exact nomatch ho

/-! ## The laws of O59 over a translation -/

theorem withParts_record (s : State) (m : Master) (r : Request) (p1 : Part) (p2 : Option Part) (bs : List FaultBody) :
    (s.withParts m r p1 p2 bs).record m = some { r with part1 := p1, part2 := p2 } := by
  simp [State.withParts, State.record]

theorem settles_withParts {s : State} {m : Master} {r : Request} (hr : s.record m = some r) (hops : r.ops = [])
    (p1 : Part) (p2 : Option Part) (bs : List FaultBody) : Settles (some m) s (s.withParts m r p1 p2 bs) := by
  have hlog : Settles none s { s with log := bs.foldl FaultLog.handIn s.log } :=
    settles_of_same ⟨⟨rfl, rfl, rfl, rfl, rfl, rfl, rfl, rfl, rfl⟩, rfl, rfl⟩ rfl rfl rfl
  refine (hlog.but (some m)).trans (settles_setRecord (m := m) (fun h => (h rfl).elim) fun k word work label => ?_)
  have hnone := not_works_of_noOps (s := { s with log := bs.foldl FaultLog.handIn s.log }) hr hops k word work label
  simpa [Request.works, hops] using hnone

/-- The lookup of a SECOND part fits what its record waits for (R31, R34). -/
theorem secondLookup_fits {r : Request} {p1 : Part} (hst : r.state = .lookup) (hops : r.ops = [])
    (h1 : p1.status ≠ .waiting) (hg : granule2 r.addr r.sizeM1 < 65536) (m : Master) :
    ∃ x, Request.wait { r with part1 := p1, part2 := some (secondPart r) } = some x ∧
      Lookup.fits { master := m, ctx := r.ctx, granule := BitVec.ofNat 16 (granule2 r.addr r.sizeM1)
                    label := .second } x := by
  refine ⟨_, wait_of_lookup (r := { r with part1 := p1, part2 := some (secondPart r) }) hst, by simp [hops], rfl, ?_,
    h1,
    rfl⟩
  rw [BitVec.toNat_ofNat]
  exact Nat.mod_eq_of_lt hg

/-- A translation that goes on keeps the laws of O59: it ends, or its SECOND part's lookup joins. -/
theorem TranslationGoesOn.workLaws {s u : State} {m : Master} {r : Request} {found : Option WinCopy}
    (h : TranslationGoesOn s m r found u) (hp : PortLaws s) (hl : LookupsBut m s) (hr : s.record m = some r)
    (hst : r.state = .lookup) (hops : r.ops = []) : WorkLaws u := by
  cases h with
  | resolved bs p1 p2 h1 h2 hc =>
    have hs := settles_withParts hr hops p1 p2 bs
    have hp' := hs.portLaws hp
    obtain ⟨he, hw⟩ := settles_completeTranslation (s := s.withParts m r p1 p2 bs)
      (r := { r with part1 := p1, part2 := p2 }) hp'.queue (withParts_record ..) hops ⟨h1, h2⟩
    exact ⟨he.portLaws hp', (he.lookupsBut (hs.lookupsBut hl)).ended hw⟩
  | lookedUp bs p1 h1 hg hc =>
    have hs := settles_withParts hr hops p1 (some (secondPart r)) bs
    obtain ⟨x, hx, hf⟩ := secondLookup_fits hst hops h1 hg m
    have hlook := (hs.lookupsBut hl).joined rfl (x := x) (by rw [State.waits, withParts_record]; exact hx) hf
    obtain ⟨hq, ht, hw, hcl⟩ := hs.portLaws hp
    exact ⟨⟨hq, ht, hw, hcl⟩, hlook⟩

end Sys2Proof.Machine
end

section
/-! SUPPORT. The laws of O59 over acceptance, searches and CRSTm#. -/

namespace Sys2Proof.Machine

/-- The laws of O59 read records, queue, tags, back-port state and lookups alone. -/
theorem workLaws_congr {s t : State} (hr : t.records = s.records) (hp : t.pwq = s.pwq) (hn : t.nextEntry = s.nextEntry)
    (ht : t.port.tags = s.port.tags) (hb : t.port.back = s.port.back) (hl : t.lookups = s.lookups)
    (h : WorkLaws s) : WorkLaws t := by
  have hrec : t.record = s.record := by
    funext m
    simp [State.record, hr]
  obtain ⟨hd, ha⟩ := (tagsMatchWork_iff s).1 h.tags
  refine ⟨⟨?_, (tagsMatchWork_iff t).2 ⟨hp ▸ hd, fun k => ?_⟩, wordsHeldOnce_congr ht h.words,
    clearHasNoLiveTag_congr ht hb h.clear⟩, lookupsMatchRecords_congr hl (fun m => ?_) h.lookups⟩
  · rw [pwqInOrder_iff, hp, hn]
    exact h.queue
  · refine answersTo_congr (fun l => by rw [tag_congr ht]) (fun word work owner => ?_) (ha k)
    cases owner <;> simp [State.works, hrec, hp]
  · rw [State.waits, State.waits, hrec]

theorem Quiet.workLaws {s t : State} (k : Quiet s t) (h : WorkLaws s) : WorkLaws t :=
  workLaws_congr k.records k.pwq k.nextEntry k.tags k.back (lookups_congr k.waitList k.engine) h

/-! ## Acceptance (R34, R49, R52) -/

theorem quiet_takeOffer (s : State) (m : Master) (o : Offer) : Quiet s (s.takeOffer m o) := quiet_setChannel rfl

/-- A record written while it held nothing: a new request, with no work and no lookup yet. -/
theorem settles_newRequest {s : State} {m : Master} (hr : s.record m = none) (o : Offer) (serial : BitVec 8) (c : Ctx) :
    Settles (some m) s (s.setRecord m (some (newRequest o serial c))) := by
  refine settles_setRecord (fun h => (h rfl).elim) fun k word work label => ?_
  simp [Request.works, newRequest, State.works, hr]

/-- The lookup of a new request's first part fits what its record waits for (R24, R34). -/
theorem firstLookup_fits (m : Master) (o : Offer) (serial : BitVec 8) (c : Ctx) :
    ∃ x, (newRequest o serial c).wait = some x ∧ (firstLookup m (newRequest o serial c)).fits x := by
  have hg : (BitVec.ofNat 16 (granule1 o.addr)).toNat = granule1 o.addr := by
    have := o.addr.isLt
    rw [BitVec.toNat_ofNat]
    unfold granule1
    omega
  refine ⟨_, wait_of_lookup (r := newRequest o serial c) rfl, rfl, rfl, ?_⟩
  show match firstLabel o.addr o.sizeM1 with
    | .second => _
    | .first => _
    | .only => _
  unfold firstLabel
  split
  · next h =>
    split at h
    · exact nomatch h
    · exact nomatch h
  · next h => exact ⟨hg, rfl, h, rfl⟩
  · next h => exact ⟨hg, rfl, h, rfl⟩

theorem workLaws_acceptOffer {s : State} {m : Master} (hs : WorkLaws s) (hr : s.record m = none) (o : Offer) :
    WorkLaws (s.acceptOffer m o) := by
  have ht := (quiet_takeOffer s m o).workLaws hs
  unfold State.acceptOffer
  dsimp only
  split
  · exact ((settles_handIn _ _).trans (settles_sendReply _ _ _)).workLaws ht
  · next c _ =>
    have hrec : (s.takeOffer m o).record m = none := hr
    have hset := settles_newRequest hrec o (s.channel m).serial c
    have hbut : LookupsBut m (s.takeOffer m o) := lookupsBut_of_idle ht.lookups (by rw [State.waits, hrec]; rfl)
    have hnew : ((s.takeOffer m o).setRecord m (some (newRequest o (s.channel m).serial c))).record m =
        some (newRequest o (s.channel m).serial c) := by simp [setRecord_record]
    split
    · exact (resolveFirst_goesOn hnew rfl _).workLaws (hset.portLaws ht.toPortLaws) (hset.lookupsBut hbut) hnew rfl rfl
    · obtain ⟨x, hx, hf⟩ := firstLookup_fits m o (s.channel m).serial c
      have hlook := (hset.lookupsBut hbut).joined rfl (x := x) (by rw [State.waits, hnew]; exact hx) hf
      obtain ⟨hq, htg, hw, hcl⟩ := hset.portLaws ht.toPortLaws
      exact ⟨⟨hq, htg, hw, hcl⟩, hlook⟩

/-! ## Searches (R36, R38, R39, R41) -/

/-- The lookup taken by the engine was the head of the wait list: the lookups stand (R36). -/
theorem lookupsMatchRecords_searchBegins {s : State} {l : Lookup} {rest : List Lookup} (hi : s.engine = .idle)
    (hw : s.waitList = l :: rest) (h : LookupsMatchRecords s) {v : Served} (hv : v.lookup = l)
    (ha : v.abandoned = false) : LookupsMatchRecords { s with waitList := rest, engine := .searching v } := by
  have hold : s.lookups = l :: rest := by simp [State.lookups, hi, hw, Engine.live]
  have hnew : State.lookups { s with waitList := rest, engine := .searching v } = rest ++ [l] := by
    simp [State.lookups, Engine.live, ha, hv]
  have hperm : (rest ++ [l]).Perm s.lookups := hold ▸ List.perm_append_singleton l rest
  rw [lookupsMatchRecords_iff] at h ⊢
  obtain ⟨hn, hf, hm⟩ := h
  rw [hnew]
  refine ⟨(hperm.map _).nodup_iff.2 hn, fun l' hl' => hf l' (hperm.mem_iff.1 hl'), fun m hwm => ?_⟩
  obtain ⟨l', hl', he⟩ := hm m hwm
  exact ⟨l', hperm.mem_iff.2 hl', he⟩

/-- The lookup served and not abandoned, of an engine that is not IDLE. -/
theorem live_of_served {s : State} {v : Served} (he : s.engine = .searching v ∨ s.engine = .repeating v)
    (ha : v.abandoned = false) : s.engine.live = some v.lookup := by
  rcases he with he | he <;> simp [he, Engine.live, ha]

/-- The lookup delivered leaves its master's record with none (R38). -/
theorem lookupsBut_of_delivery {s : State} {l : Lookup} (hl : s.engine.live = some l) (h : LookupsMatchRecords s) :
    LookupsBut l.master { s with engine := .idle } ∧ ∃ r, s.record l.master = some r ∧ l.belongsTo r := by
  have hold : s.lookups = s.waitList ++ [l] := by simp [State.lookups, hl]
  have hnew : State.lookups { s with engine := .idle } = s.waitList := by simp [State.lookups, Engine.live]
  obtain ⟨-, hb, -⟩ := id h
  obtain ⟨hn, hf, hm⟩ := (lookupsMatchRecords_iff s).1 h
  rw [hold] at hn hf hm hb
  refine ⟨⟨?_, fun l' hl' => ?_, fun m hne hwm => ?_⟩, ?_⟩
  · rw [hnew]
    rw [List.map_append] at hn
    exact (List.nodup_append.1 hn).1
  · rw [hnew] at hl'
    refine ⟨fun e => ?_, hf l' (List.mem_append_left _ hl')⟩
    rw [List.map_append] at hn
    exact (List.nodup_append.1 hn).2.2 _ (List.mem_map_of_mem hl') _ (by simp) e
  · obtain ⟨l', hl', he⟩ := hm m hwm
    rw [hnew]
    rcases List.mem_append.1 hl' with hl' | hl'
    · exact ⟨l', hl', he⟩
    · rw [List.mem_singleton] at hl'
      exact absurd (hl' ▸ he).symm hne
  · obtain ⟨r, hr, hbr⟩ := hb l (by simp)
    exact ⟨r, hr, hbr⟩

theorem loadStream_fields (s : State) (l : Lookup) (found : Option WinCopy) :
    ∃ streams, s.loadStream l found = { s with streams := streams } := by
  unfold State.loadStream
  split
  · exact ⟨s.streams, rfl⟩
  · split
    · exact ⟨_, rfl⟩
    · exact ⟨s.streams, rfl⟩

/-- A delivered lookup's translation goes on from the state with the engine IDLE and the stream record loaded. -/
theorem deliver_goesOn {s : State} {l : Lookup} {r : Request} (hr : s.record l.master = some r)
    (hb : l.belongsTo r) :
    TranslationGoesOn (s.loadStream l (s.findWindow l.ctx l.granule.toNat)) l.master r
      (s.findWindow l.ctx l.granule.toNat) (s.deliver l) := by
  obtain ⟨streams, he⟩ := loadStream_fields s l (s.findWindow l.ctx l.granule.toNat)
  have hrec : (s.loadStream l (s.findWindow l.ctx l.granule.toNat)).record l.master = some r := by rw [he]; exact hr
  obtain ⟨-, -, -, hpart⟩ := hb
  unfold State.deliver
  dsimp only
  split
  · next hl =>
    rw [hl] at hpart
    exact resolveFirst_goesOn hrec hpart.2.2.2 _
  · next hl =>
    rw [hl] at hpart
    exact resolveFirst_goesOn hrec hpart.2.2.2 _
  · next hl =>
    rw [hl] at hpart
    exact resolveSecond_goesOn hrec hpart.2.1 _

theorem workLaws_deliver {s : State} {l : Lookup} (hl : s.engine.live = some l) (hs : WorkLaws s) :
    WorkLaws (State.deliver { s with engine := .idle } l) := by
  obtain ⟨hbut, r, hr, hb⟩ := lookupsBut_of_delivery hl hs.lookups
  have hgo := deliver_goesOn (s := { s with engine := .idle }) hr hb
  obtain ⟨streams, he⟩ := loadStream_fields { s with engine := .idle } l
    (State.findWindow { s with engine := .idle } l.ctx l.granule.toNat)
  rw [he] at hgo
  obtain ⟨hn, hf, hw⟩ := hbut
  exact hgo.workLaws ⟨hs.queue, hs.tags, hs.words, hs.clear⟩ ⟨hn, hf, hw⟩ hr hb.1 hb.2.1

/-! ## CRSTm# (R41, R62, R63, R135) -/

theorem abandon_live (m : Master) (e : Engine) : (e.abandon m).live = e.live.filter (·.master ≠ m) := by
  have hv : ∀ v : Served,
      (if (if v.lookup.master = m then { v with abandoned := true } else v).abandoned then none
        else some (if v.lookup.master = m then { v with abandoned := true } else v).lookup) =
      (if v.abandoned then none else some v.lookup).filter fun l : Lookup => decide (l.master ≠ m) := by
    intro v
    by_cases hm : v.lookup.master = m
    · cases ha : v.abandoned <;> simp [hm, Option.filter_some]
    · cases ha : v.abandoned <;> simp [hm, ha, Option.filter_some]
  cases e with
  | idle => rfl
  | searching v => exact hv v
  | repeating v => exact hv v

/-- CRSTm# takes master m's lookups from the list and marks the one served (R41). -/
theorem assertChannelReset_lookups (s : State) (m : Master) :
    (s.assertChannelReset m).lookups = s.lookups.filter (·.master ≠ m) := by
  have hk := keepsTables_abandonRequest { s with
      channels := s.channels.set m { s.channel m with crst := true }
      streams := s.streams.set m none
      waitList := s.waitList.filter (·.master ≠ m)
      engine := s.engine.abandon m } m
  have hw : (s.assertChannelReset m).waitList = s.waitList.filter (·.master ≠ m) := by
    cases hr : s.record m with
    | none => rw [assertChannelReset_eq, abandonRequest_of_none (by exact hr)]
    | some r => rw [assertChannelReset_of_some hr]
  rw [State.lookups, hw, assertChannelReset_eq, hk.engine, abandon_live, State.lookups, List.filter_append]
  congr 1
  cases s.engine.live with
  | none => rfl
  | some l => by_cases h : l.master = m <;> simp [Option.filter_some, h]

theorem assertChannelReset_record (s : State) (m m' : Master) :
    (s.assertChannelReset m).record m' = if m = m' then none else s.record m' := by
  cases hr : s.record m with
  | none =>
    rw [assertChannelReset_eq, abandonRequest_of_none (by exact hr)]
    split
    · next e => exact e ▸ hr
    · rfl
  | some r =>
    rw [assertChannelReset_of_some hr]
    exact setRecord_record s m m' none

theorem lookupsMatchRecords_assertChannelReset {s : State} (h : LookupsMatchRecords s) (m : Master) :
    LookupsMatchRecords (s.assertChannelReset m) := by
  have hwaits : ∀ m', m ≠ m' → (s.assertChannelReset m).waits m' = s.waits m' := fun m' hne => by
    rw [State.waits, assertChannelReset_record, if_neg hne, State.waits]
  rw [lookupsMatchRecords_iff] at h ⊢
  obtain ⟨hn, hf, hm⟩ := h
  rw [assertChannelReset_lookups]
  refine ⟨hn.sublist (List.filter_sublist.map _), fun l hl => ?_, fun m' hw => ?_⟩
  · obtain ⟨hl, hne⟩ := List.mem_filter.1 hl
    rw [hwaits _ fun e => of_decide_eq_true hne e.symm]
    exact hf l hl
  · by_cases e : m = m'
    · rw [State.waits, assertChannelReset_record, if_pos e] at hw
      exact (hw rfl).elim
    · rw [hwaits m' e] at hw
      obtain ⟨l, hl, he⟩ := hm m' hw
      exact ⟨l, List.mem_filter.2 ⟨hl, decide_eq_true fun hlm => e (hlm.symm.trans he)⟩, he⟩

/-- CRSTm# changes a tag by its owner alone: it becomes an orphan where it was a request's of master m (R63, R135). -/
theorem assertChannelReset_tag_cases {s : State} {m : Master} (hs : TagsMatchWork s) (k : TagNo) :
    (s.assertChannelReset m).tag k = s.tag k ∧
        (∀ l label, (s.tag k).state = .live l → l.owner ≠ .request m label) ∨
      ∃ l label r o, (s.tag k).state = .live l ∧ l.owner = .request m label ∧ s.record m = some r ∧
        r.opOnTag k = some o ∧
        (s.assertChannelReset m).tag k =
          { s.tag k with state := .live { l with owner := .orphan (orphanOf m o) } } := by
  by_cases hown : ∃ l label, (s.tag k).state = .live l ∧ l.owner = .request m label
  · obtain ⟨l, label, hl, ho⟩ := hown
    obtain ⟨-, ha⟩ := (tagsMatchWork_iff s).1 hs
    obtain ⟨r, hr, o, hop, hst, -⟩ := ((ha k l.word l.work (.request m label)).2
      ⟨(carries_iff ..).2 ⟨l, hl, rfl, rfl, ho⟩, nofun⟩)
    have hsome : (r.opOnTag k).isSome := List.find?_isSome.2 ⟨o, hop, by simp [hst]⟩
    obtain ⟨o', ho'⟩ := Option.isSome_iff_exists.1 hsome
    refine .inr ⟨l, label, r, o', hl, ho, hr, ho', ?_⟩
    rw [assertChannelReset_tag hr]
    exact orphanTag_of_request hl ho ho'
  · have hne : ∀ l label, (s.tag k).state = .live l → l.owner ≠ .request m label :=
      fun l label hl ho => hown ⟨l, label, hl, ho⟩
    refine .inl ⟨?_, hne⟩
    cases hr : s.record m with
    | none => rw [assertChannelReset_eq, abandonRequest_of_none (by exact hr)]; rfl
    | some r => rw [assertChannelReset_tag hr, orphanTag_of_other hne]

theorem assertChannelReset_queue (s : State) (m : Master) :
    (s.assertChannelReset m).pwq = s.pwq ∧ (s.assertChannelReset m).nextEntry = s.nextEntry ∧
      (s.assertChannelReset m).port.back = s.port.back ∧ (s.assertChannelReset m).log = s.log := by
  cases hr : s.record m with
  | none => rw [assertChannelReset_eq, abandonRequest_of_none (by exact hr)]; exact ⟨rfl, rfl, rfl, rfl⟩
  | some r => rw [assertChannelReset_of_some hr]; exact ⟨rfl, rfl, rfl, rfl⟩

/-- The laws of words and of the clear read what each tag holds, and whether it is LIVE (R112, R117). -/
theorem wordsHeldOnce_of_holds {s t : State}
    (h : ∀ k, (t.tag k).state.holds = none ∨ (t.tag k).state.holds = (s.tag k).state.holds) (hs : WordsHeldOnce s) :
    WordsHeldOnce t := by
  intro k k' hne hk
  rcases h k with h1 | h1
  · exact (hk h1).elim
  · rw [h1] at hk ⊢
    rcases h k' with h2 | h2
    · rw [h2]
      exact hk
    · rw [h2]
      exact hs k k' hne hk

theorem clearHasNoLiveTag_of_live {s t : State} (hb : t.port.back = s.port.back)
    (h : ∀ k, (t.tag k).state.isLive = true → (s.tag k).state.isLive = true) (hs : ClearHasNoLiveTag s) :
    ClearHasNoLiveTag t := by
  unfold ClearHasNoLiveTag at *
  rw [hb]
  refine hs.imp_right fun hn => (anyLive_eq_false t).2 fun k => ?_
  have := (anyLive_eq_false s).1 hn k
  by_contra hk
  exact absurd (h k (by simpa using hk)) (by simp [this])

theorem workLaws_assertChannelReset {s : State} (hs : WorkLaws s) (m : Master) : WorkLaws (s.assertChannelReset m) := by
  obtain ⟨hp, hn, hb, -⟩ := assertChannelReset_queue s m
  obtain ⟨hd, ha⟩ := (tagsMatchWork_iff s).1 hs.tags
  have htag := assertChannelReset_tag_cases (m := m) hs.tags
  refine ⟨⟨?_, (tagsMatchWork_iff _).2 ⟨hp ▸ hd, fun k => ?_⟩, wordsHeldOnce_of_holds (fun k => .inr ?_) hs.words,
    clearHasNoLiveTag_of_live hb (fun k hk => ?_) hs.clear⟩, lookupsMatchRecords_assertChannelReset hs.lookups m⟩
  · rw [pwqInOrder_iff, hp, hn]
    exact hs.queue
  · have hworks : ∀ word work owner, (∀ label, owner ≠ .request m label) →
        ((s.assertChannelReset m).works k word work owner ↔ s.works k word work owner) := by
      intro word work owner hne
      cases owner with
      | request m' label =>
        have hm : ¬ m = m' := fun e => hne label (e ▸ rfl)
        simp only [State.works, assertChannelReset_record, if_neg hm]
      | pwqEntry => simp only [State.works, hp]
      | orphan o => rfl
    have hgone : ∀ word work label, ¬ (s.assertChannelReset m).works k word work (.request m label) := by
      rintro word work label ⟨r, hr, -⟩
      rw [assertChannelReset_record, if_pos rfl] at hr
      exact nomatch hr
    rcases htag k with ⟨ht, hne⟩ | ⟨l, label, r, o, hl, ho, hr, hop, ht⟩
    · refine answersTo_congr (fun l => by rw [ht]) (fun word work owner => ?_) (ha k)
      by_cases hown : ∃ label, owner = .request m label
      · obtain ⟨label, rfl⟩ := hown
        refine iff_of_false (hgone _ _ _) fun hw => ?_
        obtain ⟨l, hl, -, -, ho⟩ := works_live (ha k) hw
        exact hne l label hl ho
      · exact hworks word work owner fun label e => hown ⟨label, e⟩
    · refine answersTo_of_none (fun l' hl' => ?_) fun word work owner hw => ?_
      · rw [ht] at hl'
        cases hl'
        exact ⟨_, rfl⟩
      · by_cases hown : ∃ label, owner = .request m label
        · obtain ⟨label, rfl⟩ := hown
          exact hgone _ _ _ hw
        · have hws := (hworks word work owner fun label e => hown ⟨label, e⟩).1 hw
          obtain ⟨l', hl', -, -, ho'⟩ := works_live (ha k) hws
          rw [hl] at hl'
          cases hl'
          exact hown ⟨label, ho' ▸ ho⟩
  · rcases htag k with ⟨ht, -⟩ | ⟨l, label, r, o, hl, -, -, -, ht⟩
    · rw [ht]
    · rw [ht, hl]
      rfl
  · rcases htag k with ⟨ht, -⟩ | ⟨l, label, r, o, hl, -, -, -, -⟩
    · rwa [ht] at hk
    · rw [hl]
      rfl

end Sys2Proof.Machine
end

section
/-! SUPPORT. The laws of O59 over grants, answers, expiries and clears, and O59. -/

namespace Sys2Proof.Machine

/-! ## A tag that takes, ends or rewrites work (R77, R81, R120, R124, R125) -/

/-- A FREE tag takes work for a word that no tag holds. -/
theorem portLaws_of_take {s t : State} {k : TagNo} {l : LiveWork} (hs : PortLaws s) (hq : PwqInOrder t)
    (hd : TagsDistinct t.pwq) (hfree : (s.tag k).state = .free) (hword : s.wordHeld l.word = false)
    (hown : ∀ o, l.owner ≠ .orphan o) (hb : t.port.back = .normal) (hk : (t.tag k).state = .live l)
    (ho : ∀ k', k' ≠ k → t.tag k' = s.tag k')
    (hw : ∀ k' word work owner, t.works k' word work owner ↔
      s.works k' word work owner ∨ k' = k ∧ word = l.word ∧ work = l.work ∧ owner = l.owner) : PortLaws t := by
  obtain ⟨-, ha⟩ := (tagsMatchWork_iff s).1 hs.tags
  have hnone : ∀ word work owner, ¬ s.works k word work owner := fun word work owner h => by
    obtain ⟨l', hl', -⟩ := works_live (ha k) h
    rw [hfree] at hl'
    exact nomatch hl'
  refine ⟨hq, (tagsMatchWork_iff t).2 ⟨hd, fun k' => ?_⟩, fun k1 k2 hne h1 => ?_, .inl hb⟩
  · by_cases e : k' = k
    · subst e
      refine answersTo_of_one hk hown fun word work owner => ?_
      rw [hw]
      simp [hnone]
    · refine answersTo_congr (fun l' => by rw [ho k' e]) (fun word work owner => ?_) (ha k')
      rw [hw]
      simp [e]
  · have hheld : ∀ k', k' ≠ k → (t.tag k').state.holds ≠ some l.word := fun k' e => by
      rw [ho k' e]
      exact (wordHeld_eq_false s l.word).1 hword k'
    have hkk : (t.tag k).state.holds = some l.word := by rw [hk]; rfl
    by_cases e1 : k1 = k
    · subst e1
      rw [hkk]
      exact fun h => hheld k2 hne.symm h.symm
    · by_cases e2 : k2 = k
      · subst e2
        rw [hkk]
        exact hheld k1 e1
      · rw [ho k1 e1] at h1 ⊢
        rw [ho k2 e2]
        exact hs.words k1 k2 hne h1

/-- A tag's work ends: it is FREE, or QUARANTINED on the word it held. -/
def TagState.ends (a b : TagState) : Prop := b = .free ∨ ∃ w, a.holds = some w ∧ b = .quarantined w

theorem TagState.ends_holds {a b : TagState} (h : a.ends b) : b.holds = none ∨ b.holds = a.holds := by
  rcases h with rfl | ⟨w, hw, rfl⟩
  · exact .inl rfl
  · exact .inr hw.symm

theorem TagState.ends_not_live {a b : TagState} (h : a.ends b) (l : LiveWork) : b ≠ .live l := by
  rcases h with rfl | ⟨w, -, rfl⟩ <;> nofun

/-- A tag's work ends, and no work is ISSUED on it any more. -/
theorem portLaws_of_end {s t : State} {k : TagNo} (hs : PortLaws s) (hq : PwqInOrder t) (hd : TagsDistinct t.pwq)
    (hb : t.port.back = s.port.back) (hk : (s.tag k).state.ends (t.tag k).state)
    (ho : ∀ k', k' ≠ k → t.tag k' = s.tag k')
    (hw : ∀ k' word work owner, t.works k' word work owner ↔ s.works k' word work owner ∧ k' ≠ k) : PortLaws t := by
  obtain ⟨-, ha⟩ := (tagsMatchWork_iff s).1 hs.tags
  refine ⟨hq, (tagsMatchWork_iff t).2 ⟨hd, fun k' => ?_⟩, wordsHeldOnce_of_holds (fun k' => ?_) hs.words,
    clearHasNoLiveTag_of_live hb (fun k' hlive => ?_) hs.clear⟩
  · by_cases e : k' = k
    · subst e
      exact answersTo_of_none (fun l hl => (TagState.ends_not_live hk l hl).elim) fun word work owner h =>
        ((hw _ _ _ _).1 h).2 rfl
    · refine answersTo_congr (fun l => by rw [ho k' e]) (fun word work owner => ?_) (ha k')
      rw [hw]
      exact and_iff_left e
  · by_cases e : k' = k
    · subst e
      exact TagState.ends_holds hk
    · exact .inr (by rw [ho k' e])
  · by_cases e : k' = k
    · subst e
      rcases hk with h | ⟨w, -, h⟩ <;> rw [h] at hlive <;> exact nomatch hlive
    · rwa [ho k' e] at hlive

/-- A tag goes on with other work for its word and its owner. -/
theorem portLaws_of_rewrite {s t : State} {k : TagNo} {l l' : LiveWork} (hs : PortLaws s) (hq : PwqInOrder t)
    (hd : TagsDistinct t.pwq) (hb : t.port.back = s.port.back) (hl : (s.tag k).state = .live l)
    (hl' : (t.tag k).state = .live l') (hword : l'.word = l.word) (hown : ∀ o, l'.owner ≠ .orphan o)
    (ho : ∀ k', k' ≠ k → t.tag k' = s.tag k')
    (hw : ∀ k' word work owner, k' ≠ k → (t.works k' word work owner ↔ s.works k' word work owner))
    (hwk : ∀ word work owner, t.works k word work owner ↔ word = l'.word ∧ work = l'.work ∧ owner = l'.owner) :
    PortLaws t := by
  obtain ⟨-, ha⟩ := (tagsMatchWork_iff s).1 hs.tags
  refine ⟨hq, (tagsMatchWork_iff t).2 ⟨hd, fun k' => ?_⟩, wordsHeldOnce_of_holds (fun k' => .inr ?_) hs.words,
    clearHasNoLiveTag_of_live hb (fun k' hlive => ?_) hs.clear⟩
  · by_cases e : k' = k
    · subst e
      exact answersTo_of_one hl' hown hwk
    · exact answersTo_congr (fun l => by rw [ho k' e]) (fun word work owner => hw _ _ _ _ e) (ha k')
  · by_cases e : k' = k
    · subst e
      rw [hl', hl]
      exact congrArg some hword
    · rw [ho k' e]
  · by_cases e : k' = k
    · subst e
      rw [hl]
      rfl
    · rwa [ho k' e] at hlive

/-! ## Grants (R77, R99, R119, R120) -/

theorem exists_mem_set {α : Type} {P : α → Prop} {a b : α} (ha : ¬ P a) : ∀ {l : List α} {i : Nat}, l[i]? = some a →
    ((∃ x ∈ l.set i b, P x) ↔ (∃ x ∈ l, P x) ∨ P b)
  | [], _, h => nomatch h
  | y :: l, 0, h => by
    obtain rfl : y = a := by simpa using h
    simp [ha, or_comm]
  | y :: l, i + 1, h => by
    have := exists_mem_set (b := b) ha (l := l) (i := i) (by simpa using h)
    simp only [List.set_cons_succ, List.mem_cons, or_and_right, exists_or, exists_eq_left, this, or_assoc]

theorem chooseOp_mem {choice : OpChoice} {ready : List Nat} {i : Nat} (h : chooseOp choice ready = some i) :
    i ∈ ready := by
  cases choice with
  | first => exact List.mem_of_head? h
  | second => exact List.mem_of_getLast? h

/-- A grant takes nothing, the queue's offered entry, or a ready operation (R119). -/
theorem grant_cases (s : State) (k : TagNo) (choice : OpChoice) :
    s.grant k choice = s ∨
      (∃ e, s.offeredEntry = some e ∧ s.grant k choice = s.grantEntry k e) ∨
      ∃ m r i o, s.record m = some r ∧ r.ops[i]? = some o ∧ s.opReady m r o = true ∧
        s.grant k choice = s.grantOp k m r i o := by
  unfold State.grant
  split
  · exact .inl rfl
  · split
    · exact .inl rfl
    · next e he => exact .inr (.inl ⟨e, he, rfl⟩)
  · split
    · exact .inl rfl
    · next m hsrc _ r hr =>
      split
      · exact .inl rfl
      · next i hi =>
        split
        · exact .inl rfl
        · next o ho =>
          obtain ⟨o', ho', hready⟩ := (mem_readyOps s m r i).1 (chooseOp_mem hi)
          rw [ho] at ho'
          cases ho'
          exact .inr (.inr ⟨m, r, i, o, hr, ho, hready, rfl⟩)

/-- The work of a request one of whose PENDING operations was granted tag k (R77). -/
theorem works_granted {r : Request} {i : Nat} {o : WordOp} (ho : r.ops[i]? = some o) (hp : o.state = .pending)
    (k k' : TagNo) (word : WordAddr) (work : Work) (label : Label) :
    Request.works { r with state := .active, ops := r.ops.set i { o with state := .issued k, snapshot := [] } } k' word
        work label ↔
      r.works k' word work label ∨ k' = k ∧ word = o.word ∧ work = o.work ∧ label = o.label := by
  unfold Request.works
  rw [exists_mem_set (a := o) (by simp [hp]) ho]
  refine or_congr_right ?_
  simp only [OpState.issued.injEq]
  constructor <;> rintro ⟨rfl, rfl, rfl, rfl⟩ <;> exact ⟨rfl, rfl, rfl, rfl⟩

theorem workLaws_grantOp {s : State} (hs : WorkLaws s) {k : TagNo} (hf : (s.tag k).state = .free) {m : Master}
    {r : Request} {i : Nat} {o : WordOp} (hr : s.record m = some r) (ho : r.ops[i]? = some o)
    (hready : s.opReady m r o = true) : WorkLaws (s.grantOp k m r i o) := by
  obtain ⟨hp, hst, -, -, hheld, hback⟩ := (opReady_iff s m r o).1 hready
  have hrec : ∀ m', (s.grantOp k m r i o).record m' = if m = m' then some { r with
      state := .active, ops := r.ops.set i { o with state := .issued k, snapshot := [] } } else s.record m' :=
    fun m' => setRecord_record _ m m' _
  have htag : ∀ k', (s.grantOp k m r i o).tag k' = if k = k' then
      { state := .live { word := o.word, work := o.work, owner := .request m o.label, count := s.port.deadline }
        lastWord := o.word } else s.tag k' := fun k' => startTag_tag s k k' _ _ _
  have hwaits : ∀ m', (s.grantOp k m r i o).waits m' = s.waits m' := fun m' => by
    rw [State.waits, hrec, State.waits]
    split
    · next e => rw [← e, hr]; exact (wait_eq_none.2 hst).symm
    · rfl
  refine ⟨portLaws_of_take (l := ⟨o.word, o.work, .request m o.label, s.port.deadline⟩) hs.toPortLaws hs.queue
    ((tagsMatchWork_iff s).1 hs.tags).1 hf hheld nofun hback
    (by rw [htag, if_pos rfl]) (fun k' e => by rw [htag, if_neg (Ne.symm e)]) fun k' word work owner => ?_,
    lookupsMatchRecords_congr (s := s) rfl hwaits hs.lookups⟩
  cases owner with
  | request m' label =>
    simp only [State.works, hrec]
    by_cases e : m = m'
    · subst e
      simp only [if_true, Option.mem_def, Option.some.injEq, exists_eq_left', works_granted ho hp, hr, true_and,
        Owner.request.injEq]
    · simp [e, Ne.symm e]
  | pwqEntry => exact (or_iff_left fun h => nomatch h.2.2.2).symm
  | orphan x => simp [State.works]

/-! ### The oldest QUEUED entry is granted (R99) -/

/-- The queue once its entry e was granted tag k. -/
def issueIn (q : List Entry) (e : Entry) (k : TagNo) : List Entry := q.map fun x => if x.id = e.id then x.issue k else x

/-- The queue when its oldest QUEUED entry was granted a tag stays in order (R97). -/
theorem queueInOrder_issue {older newer : List Entry} {e : Entry} {n : Nat} (k : TagNo)
    (h : QueueInOrder (older ++ e :: newer) n) (hold : ∀ x ∈ older, x.state ≠ .queued) :
    QueueInOrder (issueIn (older ++ e :: newer) e k) n ∧
      issueIn (older ++ e :: newer) e k = older ++ e.issue k :: newer := by
  have heq : issueIn (older ++ e :: newer) e k = older ++ e.issue k :: newer := by
    obtain ⟨-, hids, -⟩ := h
    rw [List.map_append, List.map_cons, List.nodup_append, List.nodup_cons] at hids
    obtain ⟨-, ⟨hnew, -⟩, hdisj⟩ := hids
    unfold issueIn
    rw [List.map_append, List.map_cons, if_pos rfl]
    congr 1
    · refine (List.map_congr_left fun x hx => if_neg fun he => ?_).trans (List.map_id' _)
      exact hdisj _ (List.mem_map_of_mem hx) _ (by simp) he
    · congr 1
      refine (List.map_congr_left fun x hx => if_neg fun he => ?_).trans (List.map_id' _)
      exact hnew (he ▸ List.mem_map_of_mem hx)
  refine ⟨?_, heq⟩
  rw [heq]
  obtain ⟨hlen, hids, hnext, hord⟩ := h
  rw [List.pairwise_append, List.pairwise_cons] at hord
  obtain ⟨ho, ⟨-, hn⟩, hon⟩ := hord
  refine ⟨by simpa using hlen, by simpa [Entry.issue] using hids, fun x hx => ?_, ?_⟩
  · rcases List.mem_append.1 hx with hx | hx
    · exact hnext x (by simp [hx])
    · rcases List.mem_cons.1 hx with rfl | hx
      · exact hnext e (by simp)
      · exact hnext x (by simp [hx])
  · rw [List.pairwise_append, List.pairwise_cons]
    exact ⟨ho, ⟨fun _ _ _ => nofun, hn⟩, fun a ha _ _ _ => hold a ha⟩

/-- No two entries hold one tag once a QUEUED one was granted a tag that none held. -/
theorem tagsDistinct_issue {older newer : List Entry} {e : Entry} {k : TagNo}
    (h : TagsDistinct (older ++ e :: newer)) (hk : ∀ x ∈ older ++ e :: newer, x.state ≠ .issued k) :
    TagsDistinct (older ++ e.issue k :: newer) := by
  unfold TagsDistinct at *
  rw [List.pairwise_append, List.pairwise_cons] at h ⊢
  obtain ⟨ho, ⟨-, hn⟩, hon⟩ := h
  refine ⟨ho, ⟨fun x hx k' hk' => ?_, hn⟩, fun a ha b hb k' hk' => ?_⟩
  · cases hk'
    exact hk x (by simp [hx])
  · rcases List.mem_cons.1 hb with rfl | hb
    · rintro ⟨⟩
      exact hk a (by simp [ha]) hk'
    · exact hon a ha b (by simp [hb]) k' hk'

/-- The state after the grant to entry e, before the next head is judged (R99). -/
def State.entryGranted (s : State) (k : TagNo) (e : Entry) : State :=
  let s' := ((s.startTag k e.word e.work .pwqEntry).setPointer .pwq).sendCommand (grantCommand k e.word e.work e.data)
  { s' with pwq := issueIn s.pwq e k }

theorem grantEntry_eq_settleHead (s : State) (k : TagNo) (e : Entry) :
    s.grantEntry k e = (s.entryGranted k e).settleHead := rfl

theorem workLaws_entryGranted {s : State} (hs : WorkLaws s) {k : TagNo} (hf : (s.tag k).state = .free) {e : Entry}
    (he : s.offeredEntry = some e) : WorkLaws (s.entryGranted k e) := by
  obtain ⟨hold, hheld, hback⟩ := offeredEntry_eq_some he
  obtain ⟨⟨older, newer, hq, holder⟩, hst⟩ := (oldestQueued_eq_some s e).1 hold
  obtain ⟨hd, ha⟩ := (tagsMatchWork_iff s).1 hs.tags
  have hqueue := hs.queue
  rw [pwqInOrder_iff, hq] at hqueue
  obtain ⟨hord, heq⟩ := queueInOrder_issue k hqueue holder
  have hpwq : (s.entryGranted k e).pwq = older ++ e.issue k :: newer := by rw [← heq, ← hq]; rfl
  have htag : ∀ k', (s.entryGranted k e).tag k' = if k = k' then
      { state := .live { word := e.word, work := e.work, owner := .pwqEntry, count := s.port.deadline }
        lastWord := e.word } else s.tag k' := fun k' => startTag_tag s k k' _ _ _
  have hnone : ∀ x ∈ s.pwq, x.state ≠ .issued k := fun x hx hk => by
    obtain ⟨l, hl, -⟩ := works_live (ha k) (owner := .pwqEntry) ⟨x, hx, hk, rfl, rfl⟩
    rw [hf] at hl
    exact nomatch hl
  refine ⟨portLaws_of_take (l := ⟨e.word, e.work, .pwqEntry, s.port.deadline⟩) hs.toPortLaws ?_ ?_ hf hheld nofun
    hback (by rw [htag, if_pos rfl])
    (fun k' e' => by rw [htag, if_neg (Ne.symm e')]) fun k' word work owner => ?_,
    lookupsMatchRecords_congr (s := s) rfl (fun _ => rfl) hs.lookups⟩
  · rw [pwqInOrder_iff, hpwq, ← heq]
    exact hord
  · rw [hpwq]
    exact tagsDistinct_issue (hq ▸ hd) (hq ▸ hnone)
  · cases owner with
    | request m label => exact (or_iff_left fun h => nomatch h.2.2.2).symm
    | orphan x => simp [State.works]
    | pwqEntry =>
      simp only [State.works, hpwq, hq, List.mem_append, List.mem_cons, or_and_right, exists_or, exists_eq_left,
        Entry.issue, EntryState.issued.injEq, hst, reduceCtorEq, false_and, false_or, and_true]
      rw [or_assoc, or_comm (a := k = k' ∧ e.word = word ∧ e.work = work)]
      refine or_congr Iff.rfl (or_congr Iff.rfl ?_)
      constructor <;> rintro ⟨rfl, rfl, rfl⟩ <;> exact ⟨rfl, rfl, rfl⟩

theorem workLaws_grant {s : State} (hs : WorkLaws s) {k : TagNo} (hf : (s.tag k).state = .free) (choice : OpChoice) :
    WorkLaws (s.grant k choice) := by
  rcases grant_cases s k choice with h | ⟨e, he, h⟩ | ⟨m, r, i, o, hr, ho, hready, h⟩
  · rwa [h]
  · have hg := workLaws_entryGranted hs hf he
    rw [h, grantEntry_eq_settleHead]
    exact (settles_settleHead hg.queue).workLaws hg
  · rw [h]
    exact workLaws_grantOp hs hf hr ho hready

/-! ## The end of a tag's work (R124, R125) -/

/-- From s to u the work of tag k has ended at the tag, and stands yet in record or queue. -/
structure TagEnds (k : TagNo) (s u : State) : Prop where
  ended : (s.tag k).state.ends (u.tag k).state
  others : ∀ k', k' ≠ k → u.tag k' = s.tag k'
  back : u.port.back = s.port.back
  records : u.records = s.records
  pwq : u.pwq = s.pwq
  nextEntry : u.nextEntry = s.nextEntry
  waitList : u.waitList = s.waitList
  engine : u.engine = s.engine

theorem tagEnds_freeTag (s : State) (k : TagNo) : TagEnds k s (s.freeTag k) :=
  ⟨.inl (by rw [freeTag_tag, if_pos rfl]), fun k' e => by rw [freeTag_tag, if_neg (Ne.symm e)], rfl, rfl, rfl, rfl, rfl,
    rfl⟩

theorem tagEnds_quarantine {s : State} {k : TagNo} {l : LiveWork} (hl : (s.tag k).state = .live l) :
    TagEnds k s (s.setTag k { s.tag k with state := .quarantined l.word }) :=
  ⟨.inr ⟨l.word, by rw [hl]; rfl, by rw [setTag_tag, if_pos rfl]⟩,
    fun k' e => by rw [setTag_tag, if_neg (Ne.symm e)], rfl, rfl, rfl, rfl, rfl, rfl⟩

theorem TagEnds.handIn {s u : State} {k : TagNo} (h : TagEnds k s u) (b : FaultBody) : TagEnds k s (u.handIn b) :=
  ⟨h.ended, h.others, h.back, h.records, h.pwq, h.nextEntry, h.waitList, h.engine⟩

theorem TagEnds.drainUpdate {s u : State} {k : TagNo} (h : TagEnds k s u) (f : DrainJob → Member → Option Member) :
    TagEnds k s (u.drainUpdate f) :=
  ⟨h.ended, h.others, h.back, h.records, h.pwq, h.nextEntry, h.waitList, h.engine⟩

theorem TagEnds.record {s u : State} {k : TagNo} (h : TagEnds k s u) : u.record = s.record := by
  funext m
  rw [State.record, State.record, h.records]

theorem TagEnds.waits {s u : State} {k : TagNo} (h : TagEnds k s u) (m : Master) : u.waits m = s.waits m := by
  rw [State.waits, State.waits, h.record]

theorem TagEnds.works {s u : State} {k : TagNo} (h : TagEnds k s u) (k' : TagNo) (word : WordAddr) (work : Work)
    (owner : Owner) : u.works k' word work owner ↔ s.works k' word work owner := by
  cases owner <;> simp [State.works, h.record, h.pwq]

theorem TagEnds.queue {s u : State} {k : TagNo} (h : TagEnds k s u) (hs : PwqInOrder s) : PwqInOrder u := by
  rw [pwqInOrder_iff, h.pwq, h.nextEntry]
  exact hs

theorem TagEnds.lookups {s u : State} {k : TagNo} (h : TagEnds k s u) : u.lookups = s.lookups :=
  lookups_congr h.waitList h.engine

/-- The work of a tag that carries none of a request or an entry ends with the tag (R83). -/
theorem TagEnds.workLaws {s u : State} {k : TagNo} (h : TagEnds k s u) (hs : WorkLaws s)
    (hno : ∀ word work owner, ¬ s.works k word work owner) : WorkLaws u := by
  refine ⟨portLaws_of_end hs.toPortLaws (h.queue hs.queue) (h.pwq ▸ ((tagsMatchWork_iff s).1 hs.tags).1) h.back h.ended
    h.others fun k' word work owner => ?_, lookupsMatchRecords_congr h.lookups h.waits hs.lookups⟩
  rw [h.works]
  exact ⟨fun hw => ⟨hw, fun e => hno _ _ _ (e ▸ hw)⟩, fun hw => hw.1⟩

/-- No work of a request or an entry is ISSUED on a tag that is not LIVE, or is an orphan's. -/
theorem not_works_of_tag {s : State} {k : TagNo} (hs : WorkLaws s)
    (hk : ∀ l, (s.tag k).state = .live l → ∃ o, l.owner = .orphan o) (word : WordAddr) (work : Work) (owner : Owner) :
    ¬ s.works k word work owner := by
  intro h
  obtain ⟨-, ha⟩ := (tagsMatchWork_iff s).1 hs.tags
  obtain ⟨hc, hno⟩ := (ha k word work owner).1 h
  obtain ⟨l, hl, -, -, rfl⟩ := (carries_iff ..).1 hc
  obtain ⟨o, ho⟩ := hk l hl
  exact hno o ho

/-- Of the masters, the one that owns a tag has its work. -/
theorem works_owner {s : State} {k : TagNo} {l : LiveWork} (hs : WorkLaws s) (hl : (s.tag k).state = .live l)
    {word : WordAddr} {work : Work} {owner : Owner} (h : s.works k word work owner) :
    word = l.word ∧ work = l.work ∧ owner = l.owner := by
  obtain ⟨-, ha⟩ := (tagsMatchWork_iff s).1 hs.tags
  obtain ⟨l', hl', rfl, rfl, rfl⟩ := works_live (ha k) h
  rw [hl] at hl'
  cases hl'
  exact ⟨rfl, rfl, rfl⟩

/-! ### A request's operation -/

theorem onTag_wait (r : Request) (k : TagNo) (f : WordOp → WordOp) : (r.onTag k f).wait = r.wait := by
  cases h : r.state <;> simp [Request.wait, Request.onTag, h]

/-- The operations on a tag finished, the others keep their tags. -/
theorem onTag_finish_works (r : Request) (k k' : TagNo) (st : OpStatus) (tag : Option TagNo) (word : WordAddr)
    (work : Work) (label : Label) :
    (r.onTag k (WordOp.finish st tag)).works k' word work label ↔ r.works k' word work label ∧ k' ≠ k := by
  unfold Request.works Request.onTag
  simp only [List.mem_map, exists_exists_and_eq_and]
  constructor
  · rintro ⟨o, ho, h⟩
    split at h
    · exact nomatch h.1
    · next hne => exact ⟨⟨o, ho, h⟩, fun e => hne (e ▸ h.1)⟩
  · rintro ⟨⟨o, ho, hst, h⟩, hne⟩
    refine ⟨o, ho, ?_⟩
    rw [if_neg (by rw [hst]; simpa using hne)]
    exact ⟨hst, h⟩

/-- A tag's work ends with the operation of the request that it carried (R78 to R82, R124). -/
theorem TagEnds.workLaws_setRecord {s u : State} {k : TagNo} (h : TagEnds k s u) (hs : WorkLaws s) {l : LiveWork}
    {m : Master} {label : Label} {r r' : Request} (hl : (s.tag k).state = .live l) (ho : l.owner = .request m label)
    (hr : s.record m = some r) (hwait : r'.wait = r.wait)
    (hops : ∀ k' word work label, r'.works k' word work label ↔ r.works k' word work label ∧ k' ≠ k) :
    WorkLaws (u.setRecord m (some r')) := by
  refine ⟨portLaws_of_end hs.toPortLaws (h.queue hs.queue) (h.pwq ▸ ((tagsMatchWork_iff s).1 hs.tags).1) h.back h.ended
    h.others fun k' word work owner => ?_, lookupsMatchRecords_congr h.lookups (fun m' => ?_) hs.lookups⟩
  · have hk : ∀ owner', (∀ label, owner' ≠ .request m label) →
        (s.works k' word work owner' ↔ s.works k' word work owner' ∧ k' ≠ k) := fun owner' hne =>
      ⟨fun hw => ⟨hw, fun e => hne label ((works_owner hs (e ▸ hl) hw).2.2.trans ho)⟩, fun hw => hw.1⟩
    cases owner with
    | request m' label' =>
      rw [setRecord_works_request]
      split
      · next e =>
        subst e
        simp [State.works, hr, hops]
      · next e =>
        rw [h.works]
        exact hk _ fun _ he => e (Owner.request.inj he).1.symm
    | pwqEntry => exact (h.works ..).trans (hk .pwqEntry fun _ he => nomatch he)
    | orphan o => simp [State.works]
  · rw [setRecord_waits]
    split
    · next e => rw [← e, State.waits, hr]; exact hwait
    · exact h.waits m'

/-- The work of a request's operation is rewritten on its tag (R81). -/
theorem onTag_merged_works {r : Request} {k : TagNo} {data : Bytes8} (k' : TagNo) (word : WordAddr) (work : Work)
    (label : Label) :
    (r.onTag k (WordOp.merged data)).works k' word work label ↔
      k' ≠ k ∧ r.works k' word work label ∨
        k' = k ∧ work = .rmw .writePhase ∧ ∃ work₀, r.works k word work₀ label := by
  unfold Request.works Request.onTag
  simp only [List.mem_map, exists_exists_and_eq_and]
  constructor
  · rintro ⟨o, ho, h⟩
    split at h
    · next hk =>
      obtain ⟨hst, hw, hwk, hlb⟩ := h
      have e : k = k' := by
        rw [WordOp.merged, hk] at hst
        exact OpState.issued.inj hst
      exact .inr ⟨e.symm, hwk.symm, o.work, o, ho, hk, hw, rfl, hlb⟩
    · next hne => exact .inl ⟨fun e => hne (e ▸ h.1), o, ho, h⟩
  · rintro (⟨hne, o, ho, hst, h⟩ | ⟨rfl, rfl, work₀, o, ho, hst, hw, -, hlb⟩)
    · refine ⟨o, ho, ?_⟩
      rw [if_neg (by rw [hst]; simpa using hne)]
      exact ⟨hst, h⟩
    · refine ⟨o, ho, ?_⟩
      rw [if_pos hst]
      exact ⟨hst, hw, rfl, hlb⟩

theorem sendMerged_tag (s : State) (k k' : TagNo) (word : WordAddr) (owner : Owner) (data : Bytes8) :
    (s.sendMerged k word owner data).tag k' = if k = k' then
      { state := .live { word := word, work := .rmw .writePhase, owner := owner, count := s.port.deadline }
        lastWord := word } else s.tag k' := startTag_tag s k k' _ _ _

/-- An RMW goes to its write phase on the tag it holds (R81). -/
theorem workLaws_merges {s : State} (hs : WorkLaws s) {k : TagNo} {l : LiveWork} {m : Master} {label : Label}
    {r : Request} {o : WordOp} (hl : (s.tag k).state = .live l) (ho : l.owner = .request m label)
    (hr : s.record m = some r) (hop : r.opOnTag k = some o) (data : Bytes8) :
    WorkLaws ((s.sendMerged k o.word l.owner (o.merged data).data).setRecord m
      (some (r.onTag k (WordOp.merged data)))) := by
  obtain ⟨hmem, hst⟩ := opOnTag_mem hop
  have hworks : s.works k o.word o.work (.request m o.label) := ⟨r, hr, o, hmem, hst, rfl, rfl, rfl⟩
  obtain ⟨hword, -, hown⟩ := works_owner hs hl hworks
  have hnot : ∀ {k' word work owner}, (∀ label, owner ≠ .request m label) → s.works k' word work owner → k' ≠ k :=
    fun hne hw e => hne label ((works_owner hs (e ▸ hl) hw).2.2.trans ho)
  have hrec := fun m' => setRecord_record (s.sendMerged k o.word l.owner (o.merged data).data) m m'
    (some (r.onTag k (WordOp.merged data)))
  refine ⟨portLaws_of_rewrite (l' := ⟨o.word, .rmw .writePhase, l.owner, s.port.deadline⟩) hs.toPortLaws
    hs.queue ((tagsMatchWork_iff s).1 hs.tags).1 rfl hl
    (by rw [setRecord_tag, sendMerged_tag, if_pos rfl]) hword (by rw [ho]; exact nofun)
    (fun k' e => by rw [setRecord_tag, sendMerged_tag, if_neg (Ne.symm e)]) (fun k' word work owner e => ?_)
    (fun word work owner => ?_), lookupsMatchRecords_congr (s := s) rfl (fun m' => ?_) hs.lookups⟩
  · cases owner with
    | request m' label' =>
      simp only [State.works, hrec]
      split
      · next em =>
        subst em
        simp [hr, onTag_merged_works, e]
      · rfl
    | pwqEntry => rfl
    | orphan x => rfl
  · have hother : (∀ label, owner ≠ .request m label) → ¬ s.works k word work owner ∧ owner ≠ l.owner :=
      fun hne => ⟨fun hw => hnot hne hw rfl, fun e => hne label (e.trans ho)⟩
    cases owner with
    | request m' label' =>
      simp only [State.works, hrec]
      split
      · next em =>
        subst em
        simp only [Option.mem_def, Option.some.injEq, exists_eq_left', onTag_merged_works, ne_eq, not_true_eq_false,
          false_and, true_and, false_or]
        constructor
        · rintro ⟨rfl, work₀, hw⟩
          obtain ⟨e1, -, e2⟩ := works_owner hs hl (owner := .request m label') ⟨r, hr, hw⟩
          exact ⟨e1.trans hword.symm, rfl, e2⟩
        · rintro ⟨rfl, rfl, e⟩
          obtain ⟨-, rfl⟩ := Owner.request.inj (e.trans hown.symm)
          exact ⟨rfl, o.work, o, hmem, hst, rfl, rfl, rfl⟩
      · next em =>
        obtain ⟨h1, h2⟩ := hother fun _ he => em (Owner.request.inj he).1.symm
        exact iff_of_false h1 fun h => h2 h.2.2
    | pwqEntry =>
      obtain ⟨h1, h2⟩ := hother nofun
      exact iff_of_false h1 fun h => h2 h.2.2
    | orphan x =>
      obtain ⟨h1, h2⟩ := hother nofun
      exact iff_of_false h1 fun h => h2 h.2.2
  · rw [State.waits, hrec]
    split
    · next e => rw [← e, State.waits, hr]; exact onTag_wait ..
    · rfl

theorem workLaws_answerOp {s : State} (hs : WorkLaws s) {k : TagNo} {l : LiveWork} {m : Master} {label : Label}
    {r : Request} {o : WordOp} (hl : (s.tag k).state = .live l) (ho : l.owner = .request m label)
    (hr : s.record m = some r) (hop : r.opOnTag k = some o) (effect : AnswerEffect) (data : Bytes8) :
    WorkLaws (s.answerOp k m r o l.owner effect data) := by
  have hend := tagEnds_freeTag s k
  cases effect with
  | completes =>
    exact (settles_finishRequest _ m).workLaws (hend.workLaws_setRecord hs hl ho hr (onTag_wait r k _)
      fun k' => onTag_finish_works r k k' .ok none)
  | gathers =>
    refine (settles_finishRequest _ m).workLaws (hend.workLaws_setRecord hs hl ho hr
      (r' := { r.onTag k (WordOp.finish .ok none) with gathered := gatherLanes o.mask o.lanes data r.gathered })
      (onTag_wait r k (WordOp.finish .ok none)) fun k' => onTag_finish_works r k k' .ok none)
  | merges => exact workLaws_merges hs hl ho hr hop data
  | fails c =>
    exact (settles_finishRequest _ m).workLaws ((hend.handIn _).workLaws_setRecord hs hl ho hr (onTag_wait r k _)
      fun k' => onTag_finish_works r k k' (.failed c) (some k))

/-! ### An entry of the queue -/

/-- Two entries of the queue on one tag are one. -/
theorem entry_eq_of_tag {q : List Entry} (h : TagsDistinct q) {e e' : Entry} {k : TagNo} (he : e ∈ q) (he' : e' ∈ q)
    (hk : e.state = .issued k) (hk' : e'.state = .issued k) : e = e' := by
  induction q with
  | nil => exact nomatch he
  | cons x q ih =>
    obtain ⟨hx, hq⟩ := List.pairwise_cons.1 h
    rcases List.mem_cons.1 he with rfl | he <;> rcases List.mem_cons.1 he' with rfl | he'
    · rfl
    · exact (hx _ he' k hk hk').elim
    · exact (hx _ ‹_› k hk' hk).elim
    · exact ih hq he he'

/-- A tag's work ends with the entry that held it, which leaves (R102, R104, R124). -/
theorem TagEnds.workLaws_leaveEntry {s u : State} {k : TagNo} (h : TagEnds k s u) (hs : WorkLaws s) {l : LiveWork}
    {e : Entry} (hl : (s.tag k).state = .live l) (ho : l.owner = .pwqEntry) (he : e ∈ s.pwq)
    (hk : e.state = .issued k) : WorkLaws (u.leaveEntry e.id) := by
  obtain ⟨hd, -⟩ := (tagsMatchWork_iff s).1 hs.tags
  refine ⟨portLaws_of_end hs.toPortLaws (QueueInOrder.filter (h.queue hs.queue) _) ((h.pwq ▸ hd).filter _) h.back
    h.ended h.others fun k' word work owner => ?_, lookupsMatchRecords_congr h.lookups (fun m' => ?_) hs.lookups⟩
  · have hreq : ∀ m label, s.works k' word work (.request m label) ↔ s.works k' word work (.request m label) ∧ k' ≠ k :=
      fun m label => ⟨fun hw => ⟨hw, fun e => by
        have := (works_owner hs (e ▸ hl) hw).2.2
        rw [ho] at this
        exact nomatch this⟩, fun hw => hw.1⟩
    cases owner with
    | request m label => rw [leaveEntry_works_request, h.works]; exact hreq m label
    | orphan x => simp [State.works]
    | pwqEntry =>
      rw [leaveEntry_works_entry, h.pwq]
      constructor
      · rintro ⟨e', he', hne, hk', hw⟩
        refine ⟨⟨e', he', hk', hw⟩, fun ek => hne ?_⟩
        rw [entry_eq_of_tag hd he' he (ek ▸ hk') hk]
      · rintro ⟨⟨e', he', hk', hw⟩, hne⟩
        refine ⟨e', he', fun hid => hne ?_, hk', hw⟩
        rw [QueueInOrder.eq_of_id hs.queue he' he hid, hk] at hk'
        exact (EntryState.issued.inj hk').symm
  · rw [leaveEntry_waits, h.waits]

/-- The state after an entry's RMW went to its write phase (R103). -/
def State.entryMerged (s : State) (k : TagNo) (e : Entry) (data : Bytes8) : State :=
  let s' := s.sendMerged k e.word .pwqEntry (e.merged data).data
  { s' with pwq := s.pwq.map fun x => if x.state = .issued k then x.merged data else x }

theorem workLaws_entryMerged {s : State} (hs : WorkLaws s) {k : TagNo} {l : LiveWork} {e : Entry}
    (hl : (s.tag k).state = .live l) (ho : l.owner = .pwqEntry) (he : e ∈ s.pwq) (hk : e.state = .issued k)
    (data : Bytes8) : WorkLaws (s.entryMerged k e data) := by
  obtain ⟨hd, -⟩ := (tagsMatchWork_iff s).1 hs.tags
  obtain ⟨hword, -, -⟩ := works_owner hs hl (owner := .pwqEntry) ⟨e, he, hk, rfl, rfl⟩
  have hstate : ∀ x : Entry, (if x.state = .issued k then x.merged data else x).state = x.state := fun x => by
    split <;> rfl
  have hid : ∀ x : Entry, (if x.state = .issued k then x.merged data else x).id = x.id := fun x => by split <;> rfl
  have htag : ∀ k', (s.entryMerged k e data).tag k' = if k = k' then
      { state := .live { word := e.word, work := .rmw .writePhase, owner := .pwqEntry, count := s.port.deadline }
        lastWord := e.word } else s.tag k' := fun k' =>
    sendMerged_tag s k k' e.word .pwqEntry (e.merged data).data
  have hworks : ∀ k' word work, (s.entryMerged k e data).works k' word work .pwqEntry ↔
      ∃ x ∈ s.pwq, x.state = .issued k' ∧ (if x.state = .issued k then x.merged data else x).word = word ∧
        (if x.state = .issued k then x.merged data else x).work = work := by
    intro k' word work
    show (∃ x ∈ s.pwq.map fun x => if x.state = .issued k then x.merged data else x, _) ↔ _
    simp only [List.mem_map, exists_exists_and_eq_and, hstate]
  have hother : ∀ {word work owner}, owner ≠ .pwqEntry → ¬ s.works k word work owner := fun hne hw =>
    hne ((works_owner hs hl hw).2.2.trans ho)
  refine ⟨portLaws_of_rewrite (l' := ⟨e.word, .rmw .writePhase, .pwqEntry, s.port.deadline⟩) hs.toPortLaws
    (QueueInOrder.map hs.queue hid fun x => by rw [hstate]) ?_ rfl hl
    (by rw [htag, if_pos rfl]) hword nofun (fun k' ek => by rw [htag, if_neg (Ne.symm ek)])
    (fun k' word work owner ek => ?_) (fun word work owner => ?_),
      lookupsMatchRecords_congr (s := s) rfl (fun _ => rfl) hs.lookups⟩
  · show TagsDistinct (s.pwq.map _)
    unfold TagsDistinct
    rw [List.pairwise_map]
    simp only [hstate]
    exact hd
  · cases owner with
    | request m label => rfl
    | orphan x => rfl
    | pwqEntry =>
      rw [hworks]
      refine exists_congr fun x => and_congr_right fun _ => and_congr_right fun hst => ?_
      rw [if_neg (by rw [hst]; simpa using ek)]
  · cases owner with
    | request m label => exact iff_of_false (hother (owner := .request m label) nofun) fun h => nomatch h.2.2
    | orphan x => exact iff_of_false id fun h => nomatch h.2.2
    | pwqEntry =>
      rw [hworks]
      constructor
      · rintro ⟨x, hx, hst, hw, hwk⟩
        rw [if_pos hst] at hw hwk
        rw [entry_eq_of_tag hd hx he hst hk] at hw hwk
        exact ⟨hw.symm, hwk.symm, rfl⟩
      · rintro ⟨rfl, rfl, -⟩
        exact ⟨e, he, hk, by rw [if_pos hk]; rfl, by rw [if_pos hk]; rfl⟩

theorem workLaws_answerEntry {s : State} (hs : WorkLaws s) {k : TagNo} {l : LiveWork} {e : Entry}
    (hl : (s.tag k).state = .live l) (ho : l.owner = .pwqEntry) (he : e ∈ s.pwq) (hk : e.state = .issued k)
    (effect : AnswerEffect) (data : Bytes8) : WorkLaws (s.answerEntry k e effect data) := by
  have hend := tagEnds_freeTag s k
  cases effect with
  | completes => exact hend.workLaws_leaveEntry hs hl ho he hk
  | gathers => exact hend.workLaws_leaveEntry hs hl ho he hk
  | merges => exact workLaws_entryMerged hs hl ho he hk data
  | fails c => exact (hend.handIn _).workLaws_leaveEntry hs hl ho he hk

/-! ## Answers (R125 to R127) -/

/-- The work of a LIVE tag stands where its owner says (R116). -/
theorem live_work {s : State} (hs : WorkLaws s) {k : TagNo} {l : LiveWork} (hl : (s.tag k).state = .live l) :
    (∃ o, l.owner = .orphan o) ∨
      (l.owner = .pwqEntry ∧ ∃ e, s.entryOnTag k = some e) ∨
      ∃ m label r o, l.owner = .request m label ∧ s.record m = some r ∧ r.opOnTag k = some o := by
  obtain ⟨-, ha⟩ := (tagsMatchWork_iff s).1 hs.tags
  have hc : s.carries k l.word l.work l.owner := (carries_iff ..).2 ⟨l, hl, rfl, rfl, rfl⟩
  cases ho : l.owner with
  | orphan o => exact .inl ⟨o, rfl⟩
  | pwqEntry =>
    obtain ⟨e, he, hst, -⟩ := (ha k l.word l.work .pwqEntry).2 ⟨ho ▸ hc, nofun⟩
    have hsome : (s.entryOnTag k).isSome := List.find?_isSome.2 ⟨e, he, by simp [hst]⟩
    exact .inr (.inl ⟨rfl, Option.isSome_iff_exists.1 hsome⟩)
  | request m label =>
    obtain ⟨r, hr, o, hop, hst, -⟩ := (ha k l.word l.work (.request m label)).2 ⟨ho ▸ hc, nofun⟩
    have hsome : (r.opOnTag k).isSome := List.find?_isSome.2 ⟨o, hop, by simp [hst]⟩
    obtain ⟨o', ho'⟩ := Option.isSome_iff_exists.1 hsome
    exact .inr (.inr ⟨m, label, r, o', rfl, hr, ho'⟩)

/-- What an answer does, by the state of its tag and the owner of its work (R125 to R127). -/
theorem answerTag_cases {s : State} (hs : WorkLaws s) (k : TagNo) (status : AnswerStatus) (data : Bytes8)
    (check : Byte) :
    s.answerTag k status data check = s.handIn (strayFault k (s.tag k).lastWord) ∨
      ((∃ w, (s.tag k).state = .quarantined w) ∧ s.answerTag k status data check = s.freeTag k) ∨
      (∃ l o, (s.tag k).state = .live l ∧ l.owner = .orphan o ∧
        s.answerTag k status data check = (s.freeTag k).endOrphan k) ∨
      (∃ l e effect, (s.tag k).state = .live l ∧ l.owner = .pwqEntry ∧ s.entryOnTag k = some e ∧
        s.answerTag k status data check = s.answerEntry k e effect data) ∨
      ∃ l m label r o effect, (s.tag k).state = .live l ∧ l.owner = .request m label ∧ s.record m = some r ∧
        r.opOnTag k = some o ∧ s.answerTag k status data check = s.answerOp k m r o l.owner effect data := by
  cases hk : (s.tag k).state with
  | free => exact .inl (by simp only [State.answerTag, hk])
  | quarantined w => exact .inr (.inl ⟨⟨w, rfl⟩, by simp only [State.answerTag, hk]⟩)
  | live l =>
    rcases live_work hs hk with ⟨o, ho⟩ | ⟨ho, e, he⟩ | ⟨m, label, r, o, ho, hr, hop⟩
    · exact .inr (.inr (.inl ⟨l, o, rfl, ho, by simp only [State.answerTag, State.answerLive, hk, ho]⟩))
    · exact .inr (.inr (.inr (.inl ⟨l, e, answerEffect l.work status data check, rfl, ho, he,
        answerTag_of_entry hk ho he status data check⟩)))
    · refine .inr (.inr (.inr (.inr ⟨l, m, label, r, o, answerEffect l.work status data check, rfl, ho, hr, hop, ?_⟩)))
      rw [ho]
      exact answerTag_of_request hk ho hr hop status data check

theorem workLaws_answerTag {s : State} (hs : WorkLaws s) (k : TagNo) (status : AnswerStatus) (data : Bytes8)
    (check : Byte) : WorkLaws (s.answerTag k status data check) := by
  rcases answerTag_cases hs k status data check with h | ⟨⟨w, hk⟩, h⟩ | ⟨l, o, hl, ho, h⟩ |
    ⟨l, e, effect, hl, ho, he, h⟩ | ⟨l, m, label, r, o, effect, hl, ho, hr, hop, h⟩ <;> rw [h]
  · exact (settles_handIn s _).workLaws hs
  · refine (tagEnds_freeTag s k).workLaws hs (not_works_of_tag hs fun l hl => ?_)
    rw [hk] at hl
    exact nomatch hl
  · refine ((tagEnds_freeTag s k).drainUpdate _).workLaws hs (not_works_of_tag hs fun l' hl' => ?_)
    rw [hl] at hl'
    cases hl'
    exact ⟨o, ho⟩
  · obtain ⟨hmem, hst⟩ := entryOnTag_mem he
    exact workLaws_answerEntry hs hl ho hmem hst effect data
  · exact workLaws_answerOp hs hl ho hr hop effect data

/-! ## Expiries (R124) -/

/-- The state in which LIVE tag k is QUARANTINED on its word (R124). -/
def State.quarantine (s : State) (k : TagNo) (l : LiveWork) : State :=
  s.setTag k { s.tag k with state := .quarantined l.word }

/-- What the expiry of a LIVE tag does to its work, by its owner (R124). -/
theorem expireWork_cases {s : State} (hs : WorkLaws s) {k : TagNo} {l : LiveWork} (hl : (s.tag k).state = .live l) :
    (∃ o, l.owner = .orphan o ∧ (s.quarantine k l).expireWork k l = (s.quarantine k l).endOrphan k) ∨
      (∃ e, l.owner = .pwqEntry ∧ s.entryOnTag k = some e ∧
        (s.quarantine k l).expireWork k l = (s.quarantine k l).failEntry e .timeout k) ∨
      ∃ m label r o, l.owner = .request m label ∧ s.record m = some r ∧ r.opOnTag k = some o ∧
        (s.quarantine k l).expireWork k l = State.finishRequest
          (((s.quarantine k l).handIn (opFault m r o .timeout k)).setRecord m
            (some (r.onTag k (WordOp.finish (.failed .timeout) (some k))))) m := by
  rcases live_work hs hl with ⟨o, ho⟩ | ⟨ho, e, he⟩ | ⟨m, label, r, o, ho, hr, hop⟩
  · exact .inl ⟨o, ho, by simp only [State.expireWork, ho]⟩
  · have he' : (s.quarantine k l).entryOnTag k = some e := he
    exact .inr (.inl ⟨e, ho, he, by simp only [State.expireWork, ho, he']⟩)
  · have hr' : (s.quarantine k l).record m = some r := hr
    exact .inr (.inr ⟨m, label, r, o, ho, hr, hop, by simp only [State.expireWork, ho, hr', hop]⟩)

theorem workLaws_expireWork {s : State} (hs : WorkLaws s) {k : TagNo} {l : LiveWork} (hl : (s.tag k).state = .live l) :
    WorkLaws ((s.quarantine k l).expireWork k l) := by
  have hend : TagEnds k s (s.quarantine k l) := tagEnds_quarantine hl
  rcases expireWork_cases hs hl with ⟨o, ho, h⟩ | ⟨e, ho, he, h⟩ | ⟨m, label, r, o, ho, hr, hop, h⟩ <;> rw [h]
  · refine (hend.drainUpdate _).workLaws hs (not_works_of_tag hs fun l' hl' => ?_)
    rw [hl] at hl'
    cases hl'
    exact ⟨o, ho⟩
  · obtain ⟨hmem, hst⟩ := entryOnTag_mem he
    exact (hend.handIn _).workLaws_leaveEntry hs hl ho hmem hst
  · exact (settles_finishRequest _ m).workLaws ((hend.handIn _).workLaws_setRecord hs hl ho hr (onTag_wait r k _)
      fun k' => onTag_finish_works r k k' (.failed .timeout) (some k))

theorem settles_judgeAll (ms : List Master) (s : State) : Settles none s (ms.foldl State.judgeReadiness s) := by
  induction ms generalizing s with
  | nil => exact .refl s
  | cons m ms ih => exact (settles_judgeReadiness s m).trans (ih _)

theorem workLaws_expireTag {s : State} (hs : WorkLaws s) {k : TagNo} {l : LiveWork} (hl : (s.tag k).state = .live l) :
    WorkLaws (s.expireTag k l) := by
  have hj := (settles_judgeAll masters _).workLaws (workLaws_expireWork hs hl)
  exact (settles_settleHead hj.queue).workLaws hj

/-! ## The end of a clear (R131, R132) -/

theorem release_live (g : Tag) (l : LiveWork) : g.release.state = .live l ↔ g.state = .live l := by
  unfold Tag.release
  split <;> simp [*]

theorem release_holds (g : Tag) : g.release.state.holds = none ∨ g.release.state.holds = g.state.holds := by
  unfold Tag.release
  split
  · exact .inr rfl
  · exact .inr rfl
  · exact .inl rfl

/-- The state after CLEARED (R131). -/
def State.afterCleared (s : State) : State :=
  { s with port := { s.port with
      tags := Vector.ofFn fun k : TagNo => (s.tag k).release, back := .normal, lastClear := .done } }

theorem afterCleared_tag (s : State) (k : TagNo) : s.afterCleared.tag k = (s.tag k).release := by
  simp [State.afterCleared, State.tag]

theorem workLaws_cleared {s : State} (hs : WorkLaws s) : WorkLaws s.afterCleared := by
  obtain ⟨hd, ha⟩ := (tagsMatchWork_iff s).1 hs.tags
  refine ⟨⟨hs.queue, (tagsMatchWork_iff _).2 ⟨hd, fun k => answersTo_congr (fun l => ?_) (fun word work owner => ?_)
    (ha k)⟩,
    wordsHeldOnce_of_holds (fun k => ?_) hs.words, .inl rfl⟩,
    lookupsMatchRecords_congr (s := s) rfl (fun _ => rfl) hs.lookups⟩
  · rw [afterCleared_tag, release_live]
  · cases owner <;> rfl
  · rw [afterCleared_tag]
    exact release_holds _

/-! ## Every event -/

theorem workLaws_reset : WorkLaws State.reset :=
  ⟨⟨pwqInOrder_reset, tagsMatchWork_reset, wordsHeldOnce_reset, .inl rfl⟩, lookupsMatchRecords_reset⟩

theorem workLaws_powerOn {s t : State} (h : execPowerOnReset s = .next t) : WorkLaws t := by
  cases h
  exact workLaws_congr (s := State.reset) rfl rfl rfl rfl rfl rfl workLaws_reset

/-- Every event keeps the laws of O59. -/
theorem Event.workLaws {s t : State} (h : Event s t) (hs : WorkLaws s) : WorkLaws t := by
  cases h with
  | none => exact hs
  | accept m o ha =>
    obtain ⟨-, -, -, hr⟩ := ha
    exact workLaws_acceptOffer hs hr o
  | searchBegins l rest hi hw =>
    obtain ⟨⟨hq, ht, hwd, hc⟩, hl⟩ := hs
    exact ⟨⟨hq, ht, hwd, hc⟩, lookupsMatchRecords_searchBegins hi hw hl rfl rfl⟩
  | searchDiscarded v he ha =>
    refine workLaws_congr (s := s) rfl rfl rfl rfl rfl ?_ hs
    rcases he with he | he <;> simp [State.lookups, Engine.live, he, ha]
  | searchRepeats v he ha =>
    refine workLaws_congr (s := s) rfl rfl rfl rfl rfl ?_ hs
    simp [State.lookups, Engine.live, he, ha]
  | searchDelivers v he ha => exact workLaws_deliver (live_of_served he ha) hs
  | grant k choice hf => exact workLaws_grant hs hf choice
  | answer k status data check => exact workLaws_answerTag hs k status data check
  | expire k l hl => exact workLaws_expireTag hs hl
  | cleared => exact workLaws_cleared hs
  | clearFails =>
    obtain ⟨⟨hq, ht, hwd, -⟩, hl⟩ := hs
    exact ⟨⟨hq, ht, hwd, .inl rfl⟩, hl⟩
  | clearStarts hn =>
    obtain ⟨⟨hq, ht, hwd, -⟩, hl⟩ := hs
    exact ⟨⟨hq, ht, hwd, .inr hn⟩, hl⟩
  | channelReset m => exact workLaws_assertChannelReset hs m
  | commit c w => exact workLaws_congr (s := s) rfl rfl rfl rfl rfl rfl hs
  | bind m c => exact workLaws_congr (s := s) rfl rfl rfl rfl rfl rfl hs
  | channelRelease m => exact workLaws_congr (s := s) rfl rfl rfl rfl rfl rfl hs
  | popFault r rest => exact workLaws_congr (s := s) rfl rfl rfl rfl rfl rfl hs

/-- Settles O59: by what each event does to the records, the queue, the tags and the lookups. -/
theorem wordsStayHeldOnce : Obligations.WordsStayHeldOnce := by
  unfold Obligations.WordsStayHeldOnce
  rintro s t ⟨hl, hq, ht, hw, hc⟩ h
  obtain ⟨⟨hq', ht', hw', hc'⟩, hl'⟩ := law_of_step Quiet.workLaws Event.workLaws workLaws_powerOn
    ⟨⟨hq, ht, hw, hc⟩, hl⟩ h
  exact ⟨hl', hq', ht', hw', hc'⟩

end Sys2Proof.Machine
end

section
/-! SUPPORT. The drain set, read through what its members stand for: a request, an entry or an orphan, each under the
window generation it carries (R139 to R145). -/

namespace Sys2Proof.Machine

/-! ## Work in the part, and the members that stand for it -/

/-- Work that a drain may wait for: the request of a record, an entry of the queue, or an orphan (R141, R142). -/
inductive Item where
  | request (m : Master)
  | entry (id : Nat)
  | orphan (k : TagNo)

/-- Whose work it is, and the window generation it carries (R68, R141). -/
structure Origin where
  master : Master
  ctx : Ctx
  winIx : WinIx
  gen : BitVec 8

def Entry.origin (e : Entry) : Origin := ⟨e.master, e.ctx, e.winIx, e.gen⟩

def Orphan.origin (o : Orphan) : Origin := ⟨o.master, o.ctx, o.winIx, o.gen⟩

/-- The origin of work made from this part's copy, for a request of master m captured under context c. -/
def WinCopy.origin (w : WinCopy) (m : Master) (c : Ctx) : Origin := ⟨m, c, w.index, w.gen⟩

/-- Work of this origin belongs to the drain (R141, R142). -/
def DrainJob.takes (job : DrainJob) (u : Origin) : Bool := job.matchesWork u.master u.ctx u.winIx u.gen

/-- The COMMIT drain of the generation that the work carries. -/
def Origin.drain (u : Origin) : DrainJob := .commit u.ctx u.winIx u.gen

theorem takes_drain (u : Origin) : u.drain.takes u = true := by
  simp [DrainJob.takes, Origin.drain, DrainJob.matchesWork]

/-- Tag k is LIVE with this orphan's work (R63). -/
def State.orphanAt (s : State) (k : TagNo) (o : Orphan) : Prop := ∃ l, (s.tag k).state = .live l ∧ l.owner = .orphan o

theorem orphanOn_iff (s : State) (k : TagNo) : s.orphanOn k ↔ ∃ o, s.orphanAt k o := by
  unfold State.orphanOn State.orphanAt
  cases hk : (s.tag k).state with
  | free => simp
  | quarantined w => simp
  | live l => cases ho : l.owner <;> simp [ho]

/-- The member stands for the work (R143). -/
def Member.counts (x : Member) : Item → Prop
  | .request m => x.isRequestOf m
  | .entry id => x.countsEntry id
  | .orphan k => x.countsOrphan k

/-- The work stands in the part. -/
def State.has (s : State) : Item → Prop
  | .request m => s.record m ≠ none
  | .entry id => ∃ e ∈ s.pwq, e.id = id
  | .orphan k => s.orphanOn k

/-- The work stands in the part, of this origin; a request by the copies of its parts. -/
def State.bears (s : State) : Item → Origin → Prop
  | .request m, u => ∃ r ∈ s.record m, ∃ p ∈ r.parts, ∃ w ∈ p.copy, w.origin m r.ctx = u
  | .entry id, u => ∃ e ∈ s.pwq, e.id = id ∧ e.origin = u
  | .orphan k, u => ∃ o, s.orphanAt k o ∧ o.origin = u

theorem bears_has {s : State} {j : Item} {u : Origin} (h : s.bears j u) : s.has j := by
  cases j with
  | request m =>
    obtain ⟨r, hr, -⟩ := h
    exact fun hn => nomatch hn.symm.trans hr
  | entry id =>
    obtain ⟨e, he, hid, -⟩ := h
    exact ⟨e, he, hid⟩
  | orphan k =>
    obtain ⟨o, ho, -⟩ := h
    exact (orphanOn_iff s k).2 ⟨o, ho⟩

theorem bears_request_master {s : State} {m : Master} {u : Origin} (h : s.bears (.request m) u) : u.master = m := by
  obtain ⟨r, -, p, -, w, -, rfl⟩ := h
  rfl

/-- The shape of a member: a request held has passed into nothing yet, one that was has passed into something (R143). -/
def Member.shaped : Member → Prop
  | .request _ true entries orphans => entries = [] ∧ orphans = []
  | .request _ false entries orphans => entries ≠ [] ∨ orphans ≠ []
  | .entry _ => True
  | .orphan _ => True

theorem standsFor_iff (s : State) (x : Member) : s.standsFor x ↔ x.shaped ∧ ∀ j, x.counts j → s.has j := by
  cases x with
  | request m held entries orphans =>
    cases held with
    | true =>
      constructor
      · rintro ⟨rfl, rfl, hr⟩
        refine ⟨⟨rfl, rfl⟩, fun j hj => ?_⟩
        cases j with
        | request m' => exact hj.1 ▸ hr
        | entry id => exact nomatch hj
        | orphan k => exact nomatch hj
      · rintro ⟨⟨rfl, rfl⟩, h⟩
        exact ⟨rfl, rfl, h (.request m) ⟨rfl, rfl⟩⟩
    | false =>
      constructor
      · rintro ⟨hne, he, ho⟩
        refine ⟨hne, fun j hj => ?_⟩
        cases j with
        | request m' => exact nomatch hj.2
        | entry id => exact he id hj
        | orphan k => exact ho k hj
      · rintro ⟨hne, h⟩
        exact ⟨hne, fun id hid => h (.entry id) hid, fun k hk => h (.orphan k) hk⟩
  | entry id =>
    constructor
    · refine fun h => ⟨trivial, fun j hj => ?_⟩
      cases j with
      | request m' => exact nomatch hj
      | entry id' => exact hj ▸ h
      | orphan k => exact nomatch hj
    · exact fun h => h.2 (.entry id) rfl
  | orphan k =>
    constructor
    · refine fun h => ⟨trivial, fun j hj => ?_⟩
      cases j with
      | request m' => exact nomatch hj
      | entry id' => exact nomatch hj
      | orphan k' => exact hj ▸ h
    · exact fun h => h.2 (.orphan k) rfl

/-! ## What the tracker counts -/

/-- The drain of this job runs, and one of its members stands for the work. -/
def Drain.counts (d : Drain) (job : DrainJob) (j : Item) : Prop :=
  ∃ members, d.state = .draining job members ∧ ∃ x ∈ members, x.counts j

def State.counted (s : State) (job : DrainJob) (j : Item) : Prop := s.drain.counts job j

/-- A DRAINING tracker has at least one member and at most 18, each of its shape (R139, R143, R145). -/
def Drain.shaped (d : Drain) : Prop :=
  ∀ job members, d.state = .draining job members → members ≠ [] ∧ members.length ≤ 18 ∧ ∀ x ∈ members, x.shaped

/-- By f the members that stand for work i come to stand for the work J in its place, and no other changes. -/
structure Replaces (f : Member → Option Member) (i : Item) (J : Item → Prop) : Prop where
  shaped : ∀ x, x.shaped → ∀ y ∈ f x, y.shaped
  counts : ∀ x, x.shaped → ∀ j, (∃ y ∈ f x, y.counts j) ↔ x.counts j ∧ j ≠ i ∨ x.counts i ∧ J j

theorem update_counts {d : Drain} {f : DrainJob → Member → Option Member} {i : Item} {J : DrainJob → Item → Prop}
    (hd : d.shaped) (hf : ∀ job, Replaces (f job) i (J job)) (job : DrainJob) (j : Item) :
    (d.update f).counts job j ↔ d.counts job j ∧ j ≠ i ∨ d.counts job i ∧ J job j := by
  unfold Drain.counts Drain.update
  cases h : d.state with
  | idle => simp [h]
  | draining job' members =>
    obtain ⟨-, -, hw⟩ := hd job' members h
    have hmem : (∃ y ∈ members.filterMap (f job'), y.counts j) ↔
        (∃ x ∈ members, x.counts j) ∧ j ≠ i ∨ (∃ x ∈ members, x.counts i) ∧ J job' j := by
      simp only [List.mem_filterMap]
      constructor
      · rintro ⟨y, ⟨x, hx, hy⟩, hc⟩
        rcases ((hf job').counts x (hw x hx) j).1 ⟨y, hy, hc⟩ with ⟨h1, h2⟩ | ⟨h1, h2⟩
        · exact .inl ⟨⟨x, hx, h1⟩, h2⟩
        · exact .inr ⟨⟨x, hx, h1⟩, h2⟩
      · rintro (⟨⟨x, hx, h1⟩, h2⟩ | ⟨⟨x, hx, h1⟩, h2⟩)
        · obtain ⟨y, hy, hc⟩ := ((hf job').counts x (hw x hx) j).2 (.inl ⟨h1, h2⟩)
          exact ⟨y, ⟨x, hx, hy⟩, hc⟩
        · obtain ⟨y, hy, hc⟩ := ((hf job').counts x (hw x hx) j).2 (.inr ⟨h1, h2⟩)
          exact ⟨y, ⟨x, hx, hy⟩, hc⟩
    have hjob : ∀ P : DrainJob → List Member → Prop,
        (∃ ms, DrainState.draining job' members = .draining job ms ∧ P job ms) ↔ job' = job ∧ P job' members := by
      intro P
      constructor
      · rintro ⟨ms, ⟨⟩, hp⟩
        exact ⟨rfl, hp⟩
      · rintro ⟨rfl, hp⟩
        exact ⟨members, rfl, hp⟩
    dsimp only
    rw [hjob fun _ ms => ∃ x ∈ ms, x.counts j, hjob fun _ ms => ∃ x ∈ ms, x.counts i]
    split
    · next he =>
      rw [he] at hmem
      refine iff_of_false (fun ⟨_, hs, _⟩ => nomatch hs) fun hc => ?_
      rcases hc with ⟨⟨-, h1⟩, h2⟩ | ⟨⟨rfl, h1⟩, h2⟩
      · obtain ⟨y, hy, -⟩ := hmem.2 (.inl ⟨h1, h2⟩)
        exact nomatch hy
      · obtain ⟨y, hy, -⟩ := hmem.2 (.inr ⟨h1, h2⟩)
        exact nomatch hy
    · next x rest he =>
      rw [he] at hmem
      constructor
      · rintro ⟨ms, ⟨⟩, hc⟩
        exact (hmem.1 hc).imp (fun h => ⟨⟨rfl, h.1⟩, h.2⟩) fun h => ⟨⟨rfl, h.1⟩, h.2⟩
      · intro hc
        rcases hc with ⟨⟨rfl, h1⟩, h2⟩ | ⟨⟨rfl, h1⟩, h2⟩
        · exact ⟨x :: rest, rfl, hmem.2 (.inl ⟨h1, h2⟩)⟩
        · exact ⟨x :: rest, rfl, hmem.2 (.inr ⟨h1, h2⟩)⟩

theorem update_shaped {d : Drain} {f : DrainJob → Member → Option Member} {i : Item} {J : DrainJob → Item → Prop}
    (hd : d.shaped) (hf : ∀ job, Replaces (f job) i (J job)) : (d.update f).shaped := by
  unfold Drain.update
  cases h : d.state with
  | idle => exact hd
  | draining job members =>
    obtain ⟨-, hlen, hw⟩ := hd job members h
    dsimp only
    split
    · exact fun _ _ hs => nomatch hs
    · next x rest he =>
      rintro _ _ ⟨⟩
      refine ⟨nofun, he ▸ (List.length_filterMap_le _ _).trans hlen, fun y hy => ?_⟩
      obtain ⟨z, hz, hy⟩ := List.mem_filterMap.1 (he ▸ hy)
      exact (hf job).shaped z (hw z hz) y hy

/-! ### The members at each event (R143, R144) -/

theorem settled_request (m : Master) (held : Bool) (entries : List Nat) (orphans : List TagNo) :
    (Member.request m held entries orphans).settled =
      if !held && entries.isEmpty && orphans.isEmpty then none else some (.request m held entries orphans) := rfl

theorem afterEntry_request (id : Nat) (m : Master) (held : Bool) (entries : List Nat) (orphans : List TagNo) :
    Member.afterEntry id (.request m held entries orphans) =
      (Member.request m held (entries.filter (· ≠ id)) orphans).settled := rfl

theorem afterEntry_entry (id id' : Nat) :
    Member.afterEntry id (.entry id') = if id' = id then none else some (.entry id') := rfl

theorem afterOrphan_request (k : TagNo) (m : Master) (held : Bool) (entries : List Nat) (orphans : List TagNo) :
    Member.afterOrphan k (.request m held entries orphans) =
      (Member.request m held entries (orphans.filter (· ≠ k))).settled := rfl

theorem afterOrphan_orphan (k k' : TagNo) :
    Member.afterOrphan k (.orphan k') = if k' = k then none else some (.orphan k') := rfl

theorem shaped_of_settled {x y : Member} (hx : ∀ m held entries orphans, x = .request m held entries orphans →
    held = true → entries = [] ∧ orphans = []) (h : x.settled = some y) : y.shaped := by
  cases x with
  | request m held entries orphans =>
    rw [settled_request] at h
    cases held with
    | true =>
      cases h
      exact hx m true entries orphans rfl rfl
    | false =>
      split at h
      · exact nomatch h
      · next hne =>
        cases h
        simp only [Bool.not_false, Bool.true_and, Bool.and_eq_true, List.isEmpty_iff, not_and_or] at hne
        exact hne
  | entry id => cases h; trivial
  | orphan k => cases h; trivial

/-- A member that leaves for want of work stands for none. -/
theorem settled_counts (x : Member) (j : Item) : (∃ y ∈ x.settled, y.counts j) ↔ x.counts j := by
  cases x with
  | request m held entries orphans =>
    rw [settled_request]
    split
    · next h =>
      simp only [Bool.and_eq_true, Bool.not_eq_true', List.isEmpty_iff] at h
      obtain ⟨⟨rfl, rfl⟩, rfl⟩ := h
      refine iff_of_false (fun ⟨_, hy, _⟩ => nomatch hy) fun hc => ?_
      cases j with
      | request m' => exact nomatch hc.2
      | entry id => exact nomatch hc
      | orphan k => exact nomatch hc
    · simp
  | entry id => simp [Member.settled]
  | orphan k => simp [Member.settled]

/-- A held request of master m passes into this work; every other member stays. -/
theorem replaces_request {f : Member → Option Member} {m : Master} {J : Item → Prop} (z : Option Member)
    (hm : f (.request m true [] []) = z) (hz : ∀ y ∈ z, y.shaped) (hzc : ∀ j, (∃ y ∈ z, y.counts j) ↔ J j)
    (ho : ∀ x, (∀ e o, x ≠ .request m true e o) → f x = some x) : Replaces f (.request m) J := by
  have hcase : ∀ x : Member, x.shaped →
      x = .request m true [] [] ∨ (∀ e o, x ≠ .request m true e o) ∧ ¬ x.counts (.request m) := by
    intro x hx
    by_cases h : ∃ e o, x = .request m true e o
    · obtain ⟨e, o, rfl⟩ := h
      obtain ⟨rfl, rfl⟩ := hx
      exact .inl rfl
    · refine .inr ⟨fun e o he => h ⟨e, o, he⟩, fun hc => h ?_⟩
      cases x with
      | request m' held e o =>
        obtain ⟨rfl, rfl⟩ := hc
        exact ⟨e, o, rfl⟩
      | entry id => exact nomatch hc
      | orphan k => exact nomatch hc
  refine ⟨fun x hx y hy => ?_, fun x hx j => ?_⟩
  · rcases hcase x hx with rfl | ⟨hne, -⟩
    · exact hz y (hm ▸ hy)
    · rw [ho x hne] at hy
      cases hy
      exact hx
  · rcases hcase x hx with rfl | ⟨hne, hnc⟩
    · rw [hm, hzc]
      constructor
      · exact fun hj => .inr ⟨⟨rfl, rfl⟩, hj⟩
      · rintro (⟨hc, hj⟩ | ⟨-, hj⟩)
        · cases j with
          | request m' => exact (hj (by rw [hc.1])).elim
          | entry id => exact nomatch hc
          | orphan k => exact nomatch hc
        · exact hj
    · rw [ho x hne]
      simp only [Option.mem_def, Option.some.injEq, exists_eq_left', hnc, false_and, or_false]
      exact ⟨fun hc => ⟨hc, fun e => hnc (e ▸ hc)⟩, And.left⟩

theorem replaces_afterReply (m : Master) : Replaces (Member.afterReply m) (.request m) fun _ => False := by
  refine replaces_request none (by simp [Member.afterReply]) nofun (fun j => by simp) fun x hx => ?_
  cases x with
  | request m' held e o =>
    cases held with
    | true => exact if_neg fun h : m' = m => hx e o (h ▸ rfl)
    | false => rfl
  | entry id => rfl
  | orphan k => rfl

theorem replaces_afterPosting (m : Master) (ids : List Nat) :
    Replaces (Member.afterPosting m ids) (.request m) fun j => ∃ id ∈ ids, j = .entry id := by
  refine replaces_request (Member.request m false ids []).settled (by simp [Member.afterPosting]) (fun y hy => ?_)
    (fun j => ?_) fun x hx => ?_
  · exact shaped_of_settled (by rintro _ _ _ _ ⟨⟩ h; exact nomatch h) hy
  · rw [settled_counts]
    cases j with
    | request m' => simp [Member.counts, Member.isRequestOf]
    | entry id => simp [Member.counts, Member.countsEntry]
    | orphan k => simp [Member.counts, Member.countsOrphan]
  · cases x with
    | request m' held e o =>
      cases held with
      | true => exact if_neg fun h : m' = m => hx e o (h ▸ rfl)
      | false => rfl
    | entry id => rfl
    | orphan k => rfl

theorem replaces_afterAbandonment (m : Master) (tags : List TagNo) :
    Replaces (Member.afterAbandonment m tags) (.request m) fun j => ∃ k ∈ tags, j = .orphan k := by
  refine replaces_request (Member.request m false [] tags).settled (by simp [Member.afterAbandonment]) (fun y hy => ?_)
    (fun j => ?_) fun x hx => ?_
  · exact shaped_of_settled (by rintro _ _ _ _ ⟨⟩ h; exact nomatch h) hy
  · rw [settled_counts]
    cases j with
    | request m' => simp [Member.counts, Member.isRequestOf]
    | entry id => simp [Member.counts, Member.countsEntry]
    | orphan k => simp [Member.counts, Member.countsOrphan]
  · cases x with
    | request m' held e o =>
      cases held with
      | true => exact if_neg fun h : m' = m => hx e o (h ▸ rfl)
      | false => rfl
    | entry id => rfl
    | orphan k => rfl

theorem replaces_afterEntry (id : Nat) : Replaces (Member.afterEntry id) (.entry id) fun _ => False := by
  refine ⟨fun x hx y hy => ?_, fun x hx j => ?_⟩
  · cases x with
    | request m held e o =>
      rw [Option.mem_def, afterEntry_request] at hy
      refine shaped_of_settled (fun m' held' e' o' he hh => ?_) hy
      cases he
      subst hh
      obtain ⟨rfl, rfl⟩ := hx
      exact ⟨rfl, rfl⟩
    | entry id' =>
      rw [Option.mem_def, afterEntry_entry] at hy
      split at hy <;> cases hy
      trivial
    | orphan k => cases hy; trivial
  · rw [and_false, or_false]
    cases x with
    | request m held e o =>
      rw [afterEntry_request, settled_counts]
      cases j <;> simp [Member.counts, Member.isRequestOf, Member.countsEntry, Member.countsOrphan]
    | entry id' =>
      by_cases h : id' = id
      · subst h
        cases j <;> simp [Member.afterEntry, Member.counts, Member.isRequestOf, Member.countsEntry,
          Member.countsOrphan, eq_comm]
      · cases j <;> simp [Member.afterEntry, h, Member.counts, Member.isRequestOf, Member.countsEntry,
          Member.countsOrphan]
        rintro rfl
        exact h
    | orphan k => cases j <;> simp [Member.afterEntry, Member.counts, Member.isRequestOf, Member.countsEntry]

theorem replaces_afterOrphan (k : TagNo) : Replaces (Member.afterOrphan k) (.orphan k) fun _ => False := by
  refine ⟨fun x hx y hy => ?_, fun x hx j => ?_⟩
  · cases x with
    | request m held e o =>
      rw [Option.mem_def, afterOrphan_request] at hy
      refine shaped_of_settled (fun m' held' e' o' he hh => ?_) hy
      cases he
      subst hh
      obtain ⟨rfl, rfl⟩ := hx
      exact ⟨rfl, rfl⟩
    | orphan k' =>
      rw [Option.mem_def, afterOrphan_orphan] at hy
      split at hy <;> cases hy
      trivial
    | entry id => cases hy; trivial
  · rw [and_false, or_false]
    cases x with
    | request m held e o =>
      rw [afterOrphan_request, settled_counts]
      cases j <;> simp [Member.counts, Member.isRequestOf, Member.countsEntry, Member.countsOrphan]
    | orphan k' =>
      by_cases h : k' = k
      · subst h
        cases j <;> simp [Member.afterOrphan, Member.counts, Member.isRequestOf, Member.countsEntry,
          Member.countsOrphan, eq_comm]
      · cases j <;> simp [Member.afterOrphan, h, Member.counts, Member.isRequestOf, Member.countsEntry,
          Member.countsOrphan]
        rintro rfl
        exact h
    | entry id => cases j <;> simp [Member.afterOrphan, Member.counts, Member.isRequestOf, Member.countsOrphan]

/-! ## The laws of the drain, over items -/

/-- The laws of `Safe` that speak of drains and of the origin of operations. -/
structure DrainLaws (s : State) : Prop where
  shaped : s.drain.shaped
  stands : ∀ job j, s.counted job j → s.has j
  old : ∀ j u, s.bears j u → u.gen ≠ (s.slot u.ctx u.winIx).gen → s.counted u.drain j
  parts : OpsMatchParts s

theorem drainsWith_iff (s : State) (c : Ctx) (w : WinIx) (g : BitVec 8) (p : Member → Prop) :
    s.drainsWith c w g p ↔ s.drainCounts (.commit c w g) p := by
  unfold State.drainsWith State.drainCounts
  cases s.drain.state with
  | idle => simp
  | draining job members => simp

theorem drainSetLaws_iff (s : State) :
    DrainSetBounded s ∧ DrainMembersStand s ↔ s.drain.shaped ∧ ∀ job j, s.counted job j → s.has j := by
  unfold DrainSetBounded DrainMembersStand State.counted Drain.counts Drain.shaped
  cases s.drain.state with
  | idle => simp
  | draining job members =>
    simp only [standsFor_iff]
    constructor
    · rintro ⟨⟨hne, hlen⟩, hst⟩
      refine ⟨?_, ?_⟩
      · rintro _ _ ⟨⟩
        exact ⟨hne, hlen, fun x hx => (hst x hx).1⟩
      · rintro _ j ⟨_, ⟨⟩, x, hx, hc⟩
        exact (hst x hx).2 j hc
    · rintro ⟨hsh, hst⟩
      obtain ⟨hne, hlen, hw⟩ := hsh job members rfl
      exact ⟨⟨hne, hlen⟩, fun x hx => ⟨hw x hx, fun j hc => hst job j ⟨members, rfl, x, hx, hc⟩⟩⟩

/-- The operations of a request carry the origin of one of its copies (R67, R68). -/
theorem bears_of_op {s : State} (h : OpsMatchParts s) {m : Master} {r : Request} (hr : s.record m = some r) {o : WordOp}
    (ho : o ∈ r.ops) : s.bears (.request m) ⟨m, o.ctx, o.winIx, o.gen⟩ := by
  obtain ⟨hctx, p, hp, -, w, hw, hix, hgen⟩ := h m r hr o ho
  exact ⟨r, hr, p, hp, w, hw, by rw [WinCopy.origin, hctx, hix, hgen]⟩

/-- The law of old generations, item by item (R141). -/
theorem oldGenerationsDrain_iff {s : State} (hp : OpsMatchParts s) :
    OldGenerationsDrain s ↔ ∀ j u, s.bears j u → u.gen ≠ (s.slot u.ctx u.winIx).gen → s.counted u.drain j := by
  unfold OldGenerationsDrain
  simp only [drainsWith_iff]
  constructor
  · rintro ⟨hreq, -, hent, horph⟩ j u hb hg
    cases j with
    | request m =>
      obtain ⟨r, hr, p, hpm, w, hw, rfl⟩ := hb
      exact hreq m r hr p hpm w hw hg
    | entry id =>
      obtain ⟨e, he, rfl, rfl⟩ := hb
      exact hent e he hg
    | orphan k =>
      obtain ⟨o, ⟨l, hl, ho⟩, rfl⟩ := hb
      have := horph k
      rw [hl] at this
      simp only [ho] at this
      exact this hg
  · intro h
    refine ⟨fun m r hr p hpm w hw hg => h (.request m) _ ⟨r, hr, p, hpm, w, hw, rfl⟩ hg,
      fun m r hr o ho hg => h (.request m) _ (bears_of_op hp hr ho) hg,
      fun e he hg => h (.entry e.id) e.origin ⟨e, he, rfl, rfl⟩ hg, fun k => ?_⟩
    split
    · trivial
    · trivial
    · next l hl =>
      split
      · trivial
      · trivial
      · next o ho => exact fun hg => h (.orphan k) o.origin ⟨o, ⟨l, hl, ho⟩, rfl⟩ hg

theorem drainLaws_iff (s : State) :
    DrainLaws s ↔ DrainSetBounded s ∧ OpsMatchParts s ∧ DrainMembersStand s ∧ OldGenerationsDrain s := by
  constructor
  · rintro ⟨hsh, hst, hold, hp⟩
    obtain ⟨hb, hm⟩ := (drainSetLaws_iff s).2 ⟨hsh, hst⟩
    exact ⟨hb, hp, hm, (oldGenerationsDrain_iff hp).2 hold⟩
  · rintro ⟨hb, hp, hm, hold⟩
    obtain ⟨hsh, hst⟩ := (drainSetLaws_iff s).1 ⟨hb, hm⟩
    exact ⟨hsh, hst, (oldGenerationsDrain_iff hp).1 hold, hp⟩

/-- From s to t no work leaves the drain before it has ended, or passed into other work that the drain takes (R143,
R144). -/
structure KeepsDrain (s t : State) : Prop where
  stays : ∀ job j, s.counted job j → t.has j → t.counted job j
  passes : ∀ job m j u, s.counted job (.request m) → (∀ m', j ≠ .request m') → t.bears j u → u.master = m →
    job.takes u = true → ¬ s.has j → t.counted job j

theorem KeepsDrain.drainKeepsWork {s t : State} (h : KeepsDrain s t) : DrainKeepsWork s t := by
  intro job members hd
  have hcount : ∀ j, (∃ x ∈ members, x.counts j) → s.counted job j := fun j hx => ⟨members, hd, hx⟩
  refine ⟨fun m hm => ⟨fun hr => h.stays job (.request m) (hcount (.request m) hm) hr, fun e he hem hnew hmatch => ?_,
    fun k l o hl ho hom hnew hmatch => ?_⟩, fun id hid he => h.stays job (.entry id) (hcount (.entry id) hid) he,
    fun k hk ho => h.stays job (.orphan k) (hcount (.orphan k) hk) ho⟩
  · refine h.passes job m (.entry e.id) e.origin (hcount (.request m) hm) (fun _ h => nomatch h)
      ⟨e, he, rfl, rfl⟩ hem hmatch ?_
    rintro ⟨e', he', hid⟩
    exact hnew e' he' hid
  · exact h.passes job m (.orphan k) o.origin (hcount (.request m) hm) (fun _ h => nomatch h)
      ⟨o, ⟨l, hl, ho⟩, rfl⟩ hom hmatch hnew

end Sys2Proof.Machine
end

section
/-! SUPPORT. The course of work already in the part: requests, entries and orphans go on or end, no new work begins, and
the drain is told of each end. -/

namespace Sys2Proof.Machine

/-! ## Work that goes on -/

/-- The log has been handed these records since. -/
def FaultLog.growsTo (l l' : FaultLog) : Prop := ∃ bs : List FaultBody, l' = bs.foldl FaultLog.handIn l

theorem FaultLog.growsTo.refl (l : FaultLog) : l.growsTo l := ⟨[], rfl⟩

theorem FaultLog.growsTo.trans {a b c : FaultLog} (h : a.growsTo b) (k : b.growsTo c) : a.growsTo c := by
  obtain ⟨bs, rfl⟩ := h
  obtain ⟨bs', rfl⟩ := k
  exact ⟨bs ++ bs', (List.foldl_append ..).symm⟩

/-- Operation o' is operation o further on: the same part's, and PENDING only if o is, for the same word. -/
structure WordOp.GoesOn (o o' : WordOp) : Prop where
  label : o'.label = o.label
  ctx : o'.ctx = o.ctx
  winIx : o'.winIx = o.winIx
  gen : o'.gen = o.gen
  pending : o'.state = .pending → o.state = .pending ∧ o'.word = o.word

/-- Request r' is request r further on: the same context, parts and copies, its operations from r's. -/
structure Request.GoesOn (r r' : Request) : Prop where
  ctx : r'.ctx = r.ctx
  parts : r'.parts.map (fun p => (p.label, p.copy)) = r.parts.map fun p => (p.label, p.copy)
  ops : ∀ o' ∈ r'.ops, ∃ o ∈ r.ops, o.GoesOn o'

theorem WordOp.GoesOn.refl (o : WordOp) : o.GoesOn o := ⟨rfl, rfl, rfl, rfl, fun h => ⟨h, rfl⟩⟩

theorem WordOp.GoesOn.trans {a b c : WordOp} (h : a.GoesOn b) (k : b.GoesOn c) : a.GoesOn c :=
  ⟨k.label.trans h.label, k.ctx.trans h.ctx, k.winIx.trans h.winIx, k.gen.trans h.gen, fun hc =>
    ⟨(h.pending (k.pending hc).1).1, (k.pending hc).2.trans (h.pending (k.pending hc).1).2⟩⟩

theorem Request.GoesOn.refl (r : Request) : r.GoesOn r := ⟨rfl, rfl, fun o ho => ⟨o, ho, .refl o⟩⟩

theorem Request.GoesOn.trans {a b c : Request} (h : a.GoesOn b) (k : b.GoesOn c) : a.GoesOn c := by
  refine ⟨k.ctx.trans h.ctx, k.parts.trans h.parts, fun o ho => ?_⟩
  obtain ⟨o', ho', h'⟩ := k.ops o ho
  obtain ⟨o'', ho'', h''⟩ := h.ops o' ho'
  exact ⟨o'', ho'', h''.trans h'⟩

/-- A request with the same parts whose operations are r's, each changed by f. -/
theorem goesOn_of_ops {r r' : Request} {f : WordOp → WordOp} (hc : r'.ctx = r.ctx) (hp : r'.parts = r.parts)
    (ho : r'.ops = r.ops.map f) (hf : ∀ o ∈ r.ops, o.GoesOn (f o)) : r.GoesOn r' := by
  refine ⟨hc, by rw [hp], fun o' ho' => ?_⟩
  rw [ho] at ho'
  obtain ⟨o, h, rfl⟩ := List.mem_map.1 ho'
  exact ⟨o, h, hf o h⟩

/-- All the work of t is work of s, further on. -/
structure WorkFrom (s t : State) : Prop where
  windows : t.windows = s.windows
  records : ∀ m, ∀ r' ∈ t.record m, ∃ r ∈ s.record m, r.GoesOn r'
  entries : ∀ e' ∈ t.pwq, ∃ e ∈ s.pwq, e.id = e'.id ∧ e.origin = e'.origin
  orphans : ∀ k o, t.orphanAt k o → s.orphanAt k o
  log : s.log.growsTo t.log

theorem WorkFrom.refl (s : State) : WorkFrom s s :=
  ⟨rfl, fun _ r hr => ⟨r, hr, .refl r⟩, fun e he => ⟨e, he, rfl, rfl⟩, fun _ _ h => h, .refl _⟩

theorem WorkFrom.trans {s t u : State} (h : WorkFrom s t) (k : WorkFrom t u) : WorkFrom s u := by
  refine ⟨k.windows.trans h.windows, fun m r hr => ?_, fun e he => ?_, fun _ _ ho => h.orphans _ _ (k.orphans _ _ ho),
    h.log.trans k.log⟩
  · obtain ⟨r', hr', h'⟩ := k.records m r hr
    obtain ⟨r'', hr'', h''⟩ := h.records m r' hr'
    exact ⟨r'', hr'', h''.trans h'⟩
  · obtain ⟨e', he', hid', ho'⟩ := k.entries e he
    obtain ⟨e'', he'', hid'', ho''⟩ := h.entries e' he'
    exact ⟨e'', he'', hid''.trans hid', ho''.trans ho'⟩

theorem WorkFrom.slot {s t : State} (h : WorkFrom s t) (c : Ctx) (w : WinIx) : t.slot c w = s.slot c w := by
  rw [State.slot, State.slot, h.windows]

/-- A copy of the request further on is a copy of the request. -/
theorem Request.GoesOn.copy {r r' : Request} (h : r.GoesOn r') {p' : Part} (hp : p' ∈ r'.parts) :
    ∃ p ∈ r.parts, p.label = p'.label ∧ p.copy = p'.copy := by
  have hm := List.mem_map_of_mem (f := fun p : Part => (p.label, p.copy)) hp
  rw [h.parts] at hm
  obtain ⟨p, hp, he⟩ := List.mem_map.1 hm
  exact ⟨p, hp, (Prod.mk.inj he).1, (Prod.mk.inj he).2⟩

theorem Request.GoesOn.copy_back {r r' : Request} (h : r.GoesOn r') {p : Part} (hp : p ∈ r.parts) :
    ∃ p' ∈ r'.parts, p'.label = p.label ∧ p'.copy = p.copy := by
  have hm := List.mem_map_of_mem (f := fun p : Part => (p.label, p.copy)) hp
  rw [← h.parts] at hm
  obtain ⟨p', hp', he⟩ := List.mem_map.1 hm
  exact ⟨p', hp', (Prod.mk.inj he).1, (Prod.mk.inj he).2⟩

theorem WorkFrom.bears {s t : State} (h : WorkFrom s t) {j : Item} {u : Origin} (hb : t.bears j u) : s.bears j u := by
  cases j with
  | request m =>
    obtain ⟨r', hr', p', hp', w, hw, rfl⟩ := hb
    obtain ⟨r, hr, hg⟩ := h.records m r' hr'
    obtain ⟨p, hp, -, hc⟩ := hg.copy hp'
    exact ⟨r, hr, p, hp, w, hc ▸ hw, by rw [hg.ctx]⟩
  | entry id =>
    obtain ⟨e', he', rfl, rfl⟩ := hb
    exact h.entries e' he'
  | orphan k =>
    obtain ⟨o, ho, rfl⟩ := hb
    exact ⟨o, h.orphans k o ho, rfl⟩

theorem WorkFrom.has {s t : State} (h : WorkFrom s t) {j : Item} (hj : t.has j) : s.has j := by
  cases j with
  | request m =>
    obtain ⟨r', hr'⟩ := Option.ne_none_iff_exists'.1 hj
    obtain ⟨r, hr, -⟩ := h.records m r' hr'
    exact fun hn => nomatch hn.symm.trans hr
  | entry id =>
    obtain ⟨e', he', rfl⟩ := hj
    obtain ⟨e, he, hid, -⟩ := h.entries e' he'
    exact ⟨e, he, hid⟩
  | orphan k =>
    obtain ⟨o, ho⟩ := (orphanOn_iff t k).1 hj
    exact (orphanOn_iff s k).2 ⟨o, h.orphans k o ho⟩

theorem WorkFrom.parts {s t : State} (h : WorkFrom s t) (hs : OpsMatchParts s) : OpsMatchParts t := by
  intro m r' hr' o' ho'
  obtain ⟨r, hr, hg⟩ := h.records m r' hr'
  obtain ⟨o, ho, hgo⟩ := hg.ops o' ho'
  obtain ⟨hctx, p, hp, hlabel, w, hw, hix, hgen⟩ := hs m r hr o ho
  obtain ⟨p', hp', hl', hc'⟩ := hg.copy_back hp
  exact ⟨hgo.ctx.trans (hctx.trans hg.ctx.symm), p', hp', hl'.trans (hlabel.trans hgo.label.symm), w, hc' ▸ hw,
    hix.trans hgo.winIx.symm, hgen.trans hgo.gen.symm⟩

/-- A PENDING operation of record m waits for the word (R72). -/
def State.awaits (s : State) (m : Master) (word : WordAddr) : Prop :=
  ∃ r ∈ s.record m, ∃ o ∈ r.ops, o.state = .pending ∧ o.word = word

theorem WorkFrom.awaits {s t : State} (h : WorkFrom s t) {m : Master} {word : WordAddr} (ha : t.awaits m word) :
    s.awaits m word := by
  obtain ⟨r', hr', o', ho', hp, rfl⟩ := ha
  obtain ⟨r, hr, hg⟩ := h.records m r' hr'
  obtain ⟨o, ho, hgo⟩ := hg.ops o' ho'
  exact ⟨r, hr, o, ho, (hgo.pending hp).1, (hgo.pending hp).2.symm⟩

/-! ## The drain beside it -/

/-- From s to t the work goes on or ends, and the drain is told of each end and of nothing else. -/
structure Evolves (s t : State) : Prop extends WorkFrom s t where
  shaped : s.drain.shaped → t.drain.shaped
  counted : s.drain.shaped → (∀ job j, s.counted job j → s.has j) →
    ∀ job j, t.counted job j ↔ s.counted job j ∧ t.has j

theorem Evolves.refl (s : State) : Evolves s s :=
  ⟨.refl s, id, fun _ h job j => ⟨fun hc => ⟨hc, h job j hc⟩, And.left⟩⟩

theorem Evolves.trans {s t u : State} (h : Evolves s t) (k : Evolves t u) : Evolves s u := by
  refine ⟨h.toWorkFrom.trans k.toWorkFrom, fun hs => k.shaped (h.shaped hs), fun hs hst job j => ?_⟩
  rw [k.counted (h.shaped hs) (fun job j hc => ((h.counted hs hst job j).1 hc).2), h.counted hs hst, and_assoc]
  exact and_congr_right fun _ => and_iff_right_of_imp k.has

/-- The drain stands, and so does all the work. -/
theorem WorkFrom.evolves {s t : State} (h : WorkFrom s t) (hd : t.drain = s.drain) (hh : ∀ j, s.has j → t.has j) :
    Evolves s t := by
  refine ⟨h, fun hs => hd ▸ hs, fun _ hst job j => ?_⟩
  rw [State.counted, hd]
  exact ⟨fun hc => ⟨hc, hh j (hst job j hc)⟩, And.left⟩

/-- The drain is told of the end of one piece of work. -/
theorem WorkFrom.evolves_end {s t : State} (h : WorkFrom s t) {i : Item} {f : Member → Option Member}
    (hf : Replaces f i fun _ => False) (hd : t.drain = s.drain.update fun _ => f) (hi : ¬ t.has i)
    (hh : ∀ j, j ≠ i → s.has j → t.has j) : Evolves s t := by
  refine ⟨h, fun hs => hd ▸ update_shaped hs fun _ => hf, fun hs hst job j => ?_⟩
  rw [State.counted, hd, update_counts hs fun _ => hf]
  simp only [and_false, or_false]
  exact ⟨fun ⟨hc, hne⟩ => ⟨hc, hh j hne (hst job j hc)⟩, fun ⟨hc, hj⟩ => ⟨hc, fun e => hi (e ▸ hj)⟩⟩

/-- Work that goes on or ends, with the drain told, keeps the laws of the drain. -/
theorem Evolves.drainLaws {s t : State} (h : Evolves s t) (hs : DrainLaws s) : DrainLaws t := by
  have hcount := h.counted hs.shaped hs.stands
  refine ⟨h.shaped hs.shaped, fun job j hc => ((hcount job j).1 hc).2,
    fun j u hb hg => (hcount _ j).2 ⟨?_, bears_has hb⟩,
    h.parts hs.parts⟩
  rw [h.slot] at hg
  exact hs.old j u (h.bears hb) hg

theorem KeepsDrain.refl (s : State) : KeepsDrain s s :=
  ⟨fun _ _ h _ => h, fun _ _ _ _ _ _ hb _ _ hn => (hn (bears_has hb)).elim⟩

/-- Work goes on after a step that keeps the drain. -/
theorem KeepsDrain.evolves {s t u : State} (h : KeepsDrain s t) (k : Evolves t u) (ht : DrainLaws t) :
    KeepsDrain s u := by
  have hcount := k.counted ht.shaped ht.stands
  exact ⟨fun job j hc hj => (hcount job j).2 ⟨h.stays job j hc (k.has hj), hj⟩,
    fun job m j u' hc hne hb hm hu hn => (hcount job j).2
      ⟨h.passes job m j u' hc hne (k.bears hb) hm hu hn, bears_has hb⟩⟩

/-! ## One rule per operation -/

/-- Nothing is done to work or drain. -/
theorem evolves_of_same {s t : State} (hw : t.windows = s.windows) (hr : t.records = s.records) (hp : t.pwq = s.pwq)
    (ho : ∀ k o, t.orphanAt k o ↔ s.orphanAt k o) (hd : t.drain = s.drain) (hl : s.log.growsTo t.log) :
    Evolves s t := by
  have hrec : t.record = s.record := by
    funext m
    simp [State.record, hr]
  refine WorkFrom.evolves ⟨hw, fun m r h => ⟨r, hrec ▸ h, .refl r⟩, fun e he => ⟨e, hp ▸ he, rfl, rfl⟩,
    fun k o h => (ho k o).1 h, hl⟩ hd fun j hj => ?_
  cases j with
  | request m => simpa only [State.has, hrec] using hj
  | entry id => simpa only [State.has, hp] using hj
  | orphan k =>
    refine (orphanOn_iff t k).2 ?_
    simpa only [ho] using (orphanOn_iff s k).1 hj

theorem evolves_handIn (s : State) (b : FaultBody) : Evolves s (s.handIn b) :=
  evolves_of_same rfl rfl rfl (fun _ _ => Iff.rfl) rfl ⟨[b], rfl⟩

theorem evolves_handInAll (s : State) (bs : List FaultBody) : Evolves s (s.handInAll bs) := by
  rw [handInAll_eq]
  exact evolves_of_same rfl rfl rfl (fun _ _ => Iff.rfl) rfl ⟨bs, rfl⟩

theorem evolves_sendReply (s : State) (m : Master) (y : Reply) : Evolves s (s.sendReply m y) :=
  evolves_of_same rfl rfl rfl (fun _ _ => Iff.rfl) rfl (.refl _)

/-- The request in record m goes on. -/
theorem evolves_setRecord {s : State} {m : Master} {r r' : Request} (hr : s.record m = some r) (h : r.GoesOn r') :
    Evolves s (s.setRecord m (some r')) := by
  refine WorkFrom.evolves ⟨rfl, fun m' x hx => ?_, fun e he => ⟨e, he, rfl, rfl⟩, fun _ _ ho => ho, .refl _⟩ rfl
    fun j hj => ?_
  · rw [setRecord_record] at hx
    split at hx
    · next e =>
      cases hx
      exact ⟨r, e ▸ hr, h⟩
    · exact ⟨x, hx, .refl x⟩
  · cases j with
    | request m' =>
      show (s.setRecord m (some r')).record m' ≠ none
      rw [setRecord_record]
      split
      · nofun
      · exact hj
    | entry id => exact hj
    | orphan k => exact hj

/-- The request in record m replies: its record is IDLE, and its member leaves (R61, R143). -/
theorem evolves_replyRequest (s : State) (m : Master) (y : Reply) : Evolves s (s.replyRequest m y) := by
  have hrec : ∀ m', (s.replyRequest m y).record m' = if m = m' then none else s.record m' :=
    fun m' => setRecord_record _ m m' none
  refine WorkFrom.evolves_end ⟨rfl, fun m' r hr => ?_, fun e he => ⟨e, he, rfl, rfl⟩, fun _ _ ho => ho, .refl _⟩
    (replaces_afterReply m) rfl (fun h => h ?_) fun j hj h => ?_
  · rw [hrec] at hr
    split at hr
    · exact nomatch hr
    · exact ⟨r, hr, .refl r⟩
  · rw [hrec, if_pos rfl]
  · cases j with
    | request m' =>
      show (s.replyRequest m y).record m' ≠ none
      rw [hrec, if_neg fun e : m = m' => hj (e ▸ rfl)]
      exact h
    | entry id => exact h
    | orphan k => exact h

theorem evolves_finishRequest (s : State) (m : Master) : Evolves s (s.finishRequest m) := by
  unfold State.finishRequest
  split
  · exact .refl s
  · split
    · exact evolves_replyRequest ..
    · exact .refl s

theorem timeoutOp_goesOn (s : State) (o : WordOp) : o.GoesOn (s.timeoutOp o) := by
  rcases timeoutOp_cases s o with h | ⟨-, t, -, h⟩
  · rw [h]
    exact .refl o
  · rw [h]
    exact ⟨rfl, rfl, rfl, rfl, nofun⟩

theorem evolves_judgeReadiness (s : State) (m : Master) : Evolves s (s.judgeReadiness m) := by
  unfold State.judgeReadiness
  split
  · exact .refl s
  · next r hr =>
    refine ((evolves_handInAll s _).trans (evolves_setRecord (r := r) ?_ ?_)).trans (evolves_finishRequest _ m)
    · rw [handInAll_eq]
      exact hr
    · exact goesOn_of_ops rfl rfl rfl fun o _ => timeoutOp_goesOn s o

theorem forget_goesOn (id : Nat) (r : Request) : r.GoesOn (r.forget id) := by
  refine ⟨rfl, ?_, fun o' ho' => ?_⟩
  · cases h : r.part2 <;> simp [Request.parts, Request.forget, Part.forget, h]
  · obtain ⟨o, ho, rfl⟩ := List.mem_map.1 ho'
    exact ⟨o, ho, rfl, rfl, rfl, rfl, fun h => ⟨h, rfl⟩⟩

/-- An entry leaves the queue, and its member with it (R104, R144). -/
theorem evolves_leaveEntry (s : State) (id : Nat) : Evolves s (s.leaveEntry id) := by
  refine WorkFrom.evolves_end ⟨rfl, fun m r hr => ?_, fun e he => ⟨e, (List.mem_filter.1 he).1, rfl, rfl⟩,
    fun _ _ ho => ho, .refl _⟩ (replaces_afterEntry id) rfl ?_ fun j hj h => ?_
  · rw [leaveEntry_record] at hr
    obtain ⟨r', hr', rfl⟩ := Option.mem_map.1 hr
    exact ⟨r', hr', forget_goesOn id r'⟩
  · rintro ⟨e, he, hid⟩
    exact of_decide_eq_true (List.mem_filter.1 he).2 hid
  · cases j with
    | request m =>
      show (s.leaveEntry id).record m ≠ none
      rw [leaveEntry_record]
      exact fun hn => h (Option.map_eq_none_iff.1 hn)
    | entry id' =>
      obtain ⟨e, he, rfl⟩ := h
      exact ⟨e, List.mem_filter.2 ⟨he, decide_eq_true fun hid => hj (hid ▸ rfl)⟩, rfl⟩
    | orphan k => exact h

theorem evolves_failEntry (s : State) (e : Entry) (c : Cause) (t : TagNo) : Evolves s (s.failEntry e c t) :=
  (evolves_handIn s _).trans (evolves_leaveEntry _ e.id)

theorem evolves_settleHeadUpTo (n : Nat) : ∀ s : State, Evolves s (settleHeadUpTo n s) := by
  induction n with
  | zero => exact Evolves.refl
  | succ n ih =>
    intro s
    unfold settleHeadUpTo
    split
    · exact .refl s
    · split
      · exact .refl s
      · exact (evolves_failEntry ..).trans (ih _)

theorem evolves_settleHead (s : State) : Evolves s s.settleHead := evolves_settleHeadUpTo _ s

theorem evolves_judgeAll (ms : List Master) (s : State) : Evolves s (ms.foldl State.judgeReadiness s) := by
  induction ms generalizing s with
  | nil => exact .refl s
  | cons m ms ih => exact (evolves_judgeReadiness s m).trans (ih _)

/-- The entries of the queue go on, each by f. -/
theorem evolves_mapEntries {s t : State} (f : Entry → Entry) (hid : ∀ e, (f e).id = e.id)
    (ho : ∀ e, (f e).origin = e.origin) (hw : t.windows = s.windows) (hr : t.records = s.records)
    (hp : t.pwq = s.pwq.map f) (hk : ∀ k o, t.orphanAt k o ↔ s.orphanAt k o) (hd : t.drain = s.drain)
    (hl : t.log = s.log) : Evolves s t := by
  have hmid := evolves_of_same (t := { t with pwq := s.pwq }) hw hr rfl hk hd (hl ▸ .refl _)
  refine hmid.trans (WorkFrom.evolves ⟨rfl, fun m r h => ⟨r, h, .refl r⟩, fun e' he' => ?_, fun _ _ h => h, .refl _⟩ rfl
    fun j hj => ?_)
  · rw [hp] at he'
    obtain ⟨e, he, rfl⟩ := List.mem_map.1 he'
    exact ⟨e, he, (hid e).symm, (ho e).symm⟩
  · cases j with
    | request m => exact hj
    | orphan k => exact hj
    | entry id =>
      obtain ⟨e, he, rfl⟩ := hj
      refine ⟨f e, ?_, hid e⟩
      rw [hp]
      exact List.mem_map_of_mem he

/-! ## Tags that carry no orphan -/

/-- A tag that carries no orphan before or after a change leaves all orphans. -/
theorem orphanAt_of_other {s t : State} {k : TagNo} (hs : ∀ o, ¬ s.orphanAt k o) (ht : ∀ o, ¬ t.orphanAt k o)
    (ho : ∀ k', k' ≠ k → t.tag k' = s.tag k') (k' : TagNo) (o : Orphan) : t.orphanAt k' o ↔ s.orphanAt k' o := by
  by_cases e : k' = k
  · subst e
    exact iff_of_false (ht o) (hs o)
  · unfold State.orphanAt
    rw [ho k' e]

theorem not_orphanAt_of_free {s : State} {k : TagNo} (h : (s.tag k).state = .free) (o : Orphan) : ¬ s.orphanAt k o := by
  rintro ⟨l, hl, -⟩
  rw [h] at hl
  exact nomatch hl

theorem not_orphanAt_of_live {s : State} {k : TagNo} {l : LiveWork} (h : (s.tag k).state = .live l)
    (hne : ∀ o, l.owner ≠ .orphan o) (o : Orphan) : ¬ s.orphanAt k o := by
  rintro ⟨l', hl, ho⟩
  rw [h] at hl
  cases hl
  exact hne o ho

theorem not_orphanAt_of_quarantined {s : State} {k : TagNo} {w : WordAddr} (h : (s.tag k).state = .quarantined w)
    (o : Orphan) : ¬ s.orphanAt k o := by
  rintro ⟨l, hl, -⟩
  rw [h] at hl
  exact nomatch hl

/-- From s to t tag k alone changes, with no orphan on it before or after. -/
theorem evolves_of_tag {s t : State} {k : TagNo} (hs : ∀ o, ¬ s.orphanAt k o) (ht : ∀ o, ¬ t.orphanAt k o)
    (ho : ∀ k', k' ≠ k → t.tag k' = s.tag k') (hw : t.windows = s.windows) (hr : t.records = s.records)
    (hp : t.pwq = s.pwq) (hd : t.drain = s.drain) (hl : t.log = s.log) : Evolves s t :=
  evolves_of_same hw hr hp (orphanAt_of_other hs ht ho) hd (hl ▸ .refl _)

theorem evolves_freeTag {s : State} {k : TagNo} (hs : ∀ o, ¬ s.orphanAt k o) : Evolves s (s.freeTag k) :=
  evolves_of_tag hs (not_orphanAt_of_free (by rw [freeTag_tag, if_pos rfl]))
    (fun k' e => by rw [freeTag_tag, if_neg (Ne.symm e)]) rfl rfl rfl rfl rfl

theorem evolves_quarantine {s : State} {k : TagNo} {l : LiveWork} (hs : ∀ o, ¬ s.orphanAt k o) :
    Evolves s (s.quarantine k l) :=
  evolves_of_tag hs (not_orphanAt_of_quarantined (w := l.word) (by rw [State.quarantine, setTag_tag, if_pos rfl]))
    (fun k' e => by rw [State.quarantine, setTag_tag, if_neg (Ne.symm e)]) rfl rfl rfl rfl rfl

/-- The orphan on tag k ends: its tag is LIVE no more, and its member leaves (R144). -/
theorem evolves_endOrphan {s u : State} {k : TagNo} (h : TagEnds k s u) (hw : u.windows = s.windows)
    (hd : u.drain = s.drain) (hl : u.log = s.log) : Evolves s (u.endOrphan k) := by
  have hnot : ∀ o, ¬ u.orphanAt k o := fun o ⟨l, hl, _⟩ => TagState.ends_not_live h.ended l hl
  have hother : ∀ k' o, k' ≠ k → (u.orphanAt k' o ↔ s.orphanAt k' o) := fun k' o e => by
    unfold State.orphanAt
    rw [h.others k' e]
  refine WorkFrom.evolves_end ⟨hw, fun m r hr => ⟨r, ?_, .refl r⟩, fun e he => ⟨e, h.pwq ▸ he, rfl, rfl⟩,
    fun k' o ho => ?_, ?_⟩ (replaces_afterOrphan k) (by rw [← hd]; rfl) (fun hn => ?_) fun j hj hh => ?_
  · rw [← h.record]
    exact hr
  · have hne : k' ≠ k := fun e => hnot o (e ▸ ho)
    exact (hother k' o hne).1 ho
  · show s.log.growsTo u.log
    rw [hl]
    exact .refl _
  · obtain ⟨o, ho⟩ := (orphanOn_iff _ k).1 hn
    exact hnot o ho
  · cases j with
    | request m =>
      show u.record m ≠ none
      rw [h.record]
      exact hh
    | entry id =>
      obtain ⟨e, he, hid⟩ := hh
      exact ⟨e, (h.pwq.symm ▸ he : e ∈ u.pwq), hid⟩
    | orphan k' =>
      obtain ⟨o, ho⟩ := (orphanOn_iff s k').1 hh
      exact (orphanOn_iff _ k').2 ⟨o, (hother k' o fun e => hj (e ▸ rfl)).2 ho⟩

/-! ## Grants, answers and expiries -/

/-- A grant's operation goes on: ISSUED on its tag (R77). -/
theorem issue_goesOn {r : Request} {i : Nat} {o : WordOp} (ho : r.ops[i]? = some o) (k : TagNo) :
    r.GoesOn { r with state := .active, ops := r.ops.set i { o with state := .issued k, snapshot := [] } } := by
  refine ⟨rfl, rfl, fun o' ho' => ?_⟩
  rcases List.mem_or_eq_of_mem_set ho' with h | rfl
  · exact ⟨o', h, .refl o'⟩
  · exact ⟨o, List.mem_of_getElem? ho, rfl, rfl, rfl, rfl, nofun⟩

theorem evolves_grant {s : State} {k : TagNo} (hf : (s.tag k).state = .free) (choice : OpChoice) :
    Evolves s (s.grant k choice) := by
  have hs := not_orphanAt_of_free hf
  rcases grant_cases s k choice with h | ⟨e, he, h⟩ | ⟨m, r, i, o, hr, ho, -, h⟩
  · rw [h]
    exact .refl s
  · rw [h, grantEntry_eq_settleHead]
    have htag : ∀ k', (s.entryGranted k e).tag k' = if k = k' then
        { state := .live { word := e.word, work := e.work, owner := .pwqEntry, count := s.port.deadline }
          lastWord := e.word } else s.tag k' := fun k' => startTag_tag s k k' _ _ _
    have hlive : ((s.entryGranted k e).tag k).state = .live ⟨e.word, e.work, .pwqEntry, s.port.deadline⟩ := by
      rw [htag, if_pos rfl]
    have horph := orphanAt_of_other hs (not_orphanAt_of_live hlive nofun) fun k' ek => by rw [htag, if_neg (Ne.symm ek)]
    refine (evolves_mapEntries (s := s) (t := s.entryGranted k e) (fun x => if x.id = e.id then x.issue k else x)
      (fun x => ?_) (fun x => ?_) rfl rfl rfl horph rfl rfl).trans (evolves_settleHead _)
    · split <;> rfl
    · split <;> rfl
  · rw [h]
    have htag : ∀ k', (s.startTag k o.word o.work (.request m o.label)).tag k' = if k = k' then
        { state := .live { word := o.word, work := o.work, owner := .request m o.label, count := s.port.deadline }
          lastWord := o.word } else s.tag k' := fun k' => startTag_tag s k k' _ _ _
    have hmid : Evolves s (((s.startTag k o.word o.work (.request m o.label)).setPointer (.master m)).sendCommand
        (grantCommand k o.word o.work o.data)) := by
      refine evolves_of_tag hs (not_orphanAt_of_live
        (l := ⟨o.word, o.work, .request m o.label, s.port.deadline⟩) ?_ nofun)
        (fun k' ek => ?_) rfl rfl rfl rfl rfl
      · exact (congrArg Tag.state (htag k)).trans (by rw [if_pos rfl])
      · exact (htag k').trans (if_neg (Ne.symm ek))
    exact hmid.trans (evolves_setRecord hr (issue_goesOn ho k))

/-- The operations of a request on one tag go on by f. -/
theorem onTag_goesOn (r : Request) (k : TagNo) {f : WordOp → WordOp}
    (hf : ∀ o : WordOp, o.state = .issued k → o.GoesOn (f o)) : r.GoesOn (r.onTag k f) := by
  refine goesOn_of_ops rfl rfl rfl fun o _ => ?_
  split
  · next h => exact hf o h
  · exact .refl o

theorem finish_goesOn (st : OpStatus) (tag : Option TagNo) (o : WordOp) : o.GoesOn (o.finish st tag) :=
  ⟨rfl, rfl, rfl, rfl, nofun⟩

theorem evolves_answerOp {s : State} {k : TagNo} {m : Master} {r : Request} {o : WordOp} {owner : Owner}
    (hs : ∀ x, ¬ s.orphanAt k x) (hown : ∀ x, owner ≠ .orphan x) (hr : s.record m = some r) (effect : AnswerEffect)
    (data : Bytes8) : Evolves s (s.answerOp k m r o owner effect data) := by
  have hfinish : ∀ st tag, r.GoesOn (r.onTag k (WordOp.finish st tag)) := fun st tag =>
    onTag_goesOn r k fun o _ => finish_goesOn st tag o
  have hfree := evolves_freeTag hs
  cases effect with
  | completes => exact (hfree.trans (evolves_setRecord hr (hfinish _ _))).trans (evolves_finishRequest _ m)
  | gathers =>
    obtain ⟨hc, hp, ho⟩ := hfinish .ok none
    exact (hfree.trans (evolves_setRecord (r' := { r.onTag k (WordOp.finish .ok none) with
      gathered := gatherLanes o.mask o.lanes data r.gathered }) hr ⟨hc, hp, ho⟩)).trans (evolves_finishRequest _ m)
  | merges =>
    have hsend : Evolves s (s.sendMerged k o.word owner (o.merged data).data) :=
      evolves_of_tag hs (not_orphanAt_of_live (l := ⟨o.word, .rmw .writePhase, owner, s.port.deadline⟩)
        (by rw [sendMerged_tag, if_pos rfl]) hown) (fun k' e => by rw [sendMerged_tag, if_neg (Ne.symm e)]) rfl rfl rfl
        rfl rfl
    exact hsend.trans (evolves_setRecord hr (onTag_goesOn r k fun o ho =>
      ⟨rfl, rfl, rfl, rfl, fun hp => nomatch ho.symm.trans hp⟩))
  | fails c =>
    exact ((hfree.trans (evolves_handIn _ _)).trans (evolves_setRecord hr (hfinish _ _))).trans
      (evolves_finishRequest _ m)

theorem evolves_answerEntry {s : State} {k : TagNo} {e : Entry} (hs : ∀ x, ¬ s.orphanAt k x) (effect : AnswerEffect)
    (data : Bytes8) : Evolves s (s.answerEntry k e effect data) := by
  have hfree := evolves_freeTag hs
  cases effect with
  | completes => exact hfree.trans (evolves_leaveEntry _ _)
  | gathers => exact hfree.trans (evolves_leaveEntry _ _)
  | merges =>
    have htag := fun k' => sendMerged_tag s k k' e.word .pwqEntry (e.merged data).data
    refine evolves_mapEntries (t := s.entryMerged k e data) (fun x => if x.state = .issued k then x.merged data else x)
      (fun x => ?_) (fun x => ?_) rfl rfl rfl (orphanAt_of_other hs
        (not_orphanAt_of_live (l := ⟨e.word, .rmw .writePhase, .pwqEntry, s.port.deadline⟩) ?_ nofun) fun k' ek => ?_)
      rfl rfl
    · split <;> rfl
    · split <;> rfl
    · exact (congrArg Tag.state (htag k)).trans (by rw [if_pos rfl])
    · exact (htag k').trans (if_neg (Ne.symm ek))
  | fails c => exact hfree.trans (evolves_failEntry ..)

theorem evolves_answerTag {s : State} (hs : WorkLaws s) (k : TagNo) (status : AnswerStatus) (data : Bytes8)
    (check : Byte) : Evolves s (s.answerTag k status data check) := by
  rcases answerTag_cases hs k status data check with h | ⟨⟨w, hk⟩, h⟩ | ⟨l, o, hl, ho, h⟩ |
    ⟨l, e, effect, hl, ho, he, h⟩ | ⟨l, m, label, r, o, effect, hl, ho, hr, hop, h⟩ <;> rw [h]
  · exact evolves_handIn ..
  · exact evolves_freeTag (not_orphanAt_of_quarantined hk)
  · exact evolves_endOrphan (tagEnds_freeTag s k) rfl rfl rfl
  · exact evolves_answerEntry (not_orphanAt_of_live hl (by rw [ho]; exact nofun)) effect data
  · have hown : ∀ x, l.owner ≠ .orphan x := by rw [ho]; exact nofun
    exact evolves_answerOp (not_orphanAt_of_live hl hown) hown hr effect data

theorem evolves_expireWork {s : State} (hs : WorkLaws s) {k : TagNo} {l : LiveWork} (hl : (s.tag k).state = .live l) :
    Evolves s ((s.quarantine k l).expireWork k l) := by
  rcases expireWork_cases hs hl with ⟨o, ho, h⟩ | ⟨e, ho, he, h⟩ | ⟨m, label, r, o, ho, hr, hop, h⟩ <;> rw [h]
  · exact evolves_endOrphan (tagEnds_quarantine hl) rfl rfl rfl
  · exact (evolves_quarantine (not_orphanAt_of_live hl (by rw [ho]; exact nofun))).trans (evolves_failEntry ..)
  · have hq : Evolves s (s.quarantine k l) := evolves_quarantine (not_orphanAt_of_live hl (by rw [ho]; exact nofun))
    exact ((hq.trans (evolves_handIn _ _)).trans (evolves_setRecord (by exact hr)
      (onTag_goesOn r k fun o _ => finish_goesOn _ _ o))).trans (evolves_finishRequest _ m)

theorem evolves_expireTag {s : State} (hs : WorkLaws s) {k : TagNo} {l : LiveWork} (hl : (s.tag k).state = .live l) :
    Evolves s (s.expireTag k l) :=
  ((evolves_expireWork hs hl).trans (evolves_judgeAll masters _)).trans (evolves_settleHead _)

end Sys2Proof.Machine
end

section
/-! SUPPORT. Where new work begins, or work passes into other work, and the drain over it: translation, posting, CRSTm#,
COMMIT and BIND. -/

namespace Sys2Proof.Machine

/-! ## A record written anew (R48, R53, R54) -/

/-- The operations of a request were made from its parts (R67, R68). -/
def Request.opsMatch (r : Request) : Prop :=
  ∀ o ∈ r.ops, o.ctx = r.ctx ∧ ∃ p ∈ r.parts, p.label = o.label ∧ ∃ w ∈ p.copy, w.index = o.winIx ∧ w.gen = o.gen

/-- From s to t the laws of the drain are kept, no work leaves the drain early, the log is only added to, and no record
but an occupied one holds a request. -/
structure Flows (s t : State) : Prop where
  laws : DrainLaws t
  keeps : KeepsDrain s t
  log : s.log.growsTo t.log
  requests : ∀ m, t.record m ≠ none → s.record m ≠ none

theorem Evolves.flows {s t : State} (h : Evolves s t) (hs : DrainLaws s) : Flows s t :=
  ⟨h.drainLaws hs, (KeepsDrain.refl s).evolves h hs, h.log, fun m => h.has (j := .request m)⟩

theorem Flows.evolves {s t u : State} (h : Flows s t) (k : Evolves t u) : Flows s u :=
  ⟨k.drainLaws h.laws, h.keeps.evolves k h.laws, h.log.trans k.log,
    fun m hu => h.requests m (k.has (j := .request m) hu)⟩

/-- The drain stands over a step, after which no entry or orphan is new. -/
theorem KeepsDrain.of_before {s a b : State} (k : KeepsDrain a b) (hd : a.drain = s.drain)
    (hh : ∀ j, (∀ m, j ≠ .request m) → a.has j → s.has j) : KeepsDrain s b := by
  have hc : ∀ job j, s.counted job j → a.counted job j := fun job j h => by
    rw [State.counted, hd]
    exact h
  exact ⟨fun job j h => k.stays job j (hc job j h), fun job m j u h hne hb hm hu hn =>
    k.passes job m j u (hc _ _ h) hne hb hm hu fun ha => hn (hh j hne ha)⟩

theorem orphanAt_congr {s t : State} (h : t.port.tags = s.port.tags) : t.orphanAt = s.orphanAt := by
  funext k o
  unfold State.orphanAt
  rw [tag_congr h]

theorem orphanOn_congr {s t : State} (h : t.port.tags = s.port.tags) (k : TagNo) : t.orphanOn k ↔ s.orphanOn k := by
  rw [orphanOn_iff, orphanOn_iff, orphanAt_congr h]

/-- Record m is written with a request each of whose copies it already bore, or is current (R68, R141). -/
theorem drain_of_written {s t : State} {m : Master} {r : Request} (hs : DrainLaws s) (hw : t.windows = s.windows)
    (hd : t.drain = s.drain) (hp : t.pwq = s.pwq) (ht : t.port.tags = s.port.tags)
    (hrec : ∀ m', t.record m' = if m = m' then some r else s.record m') (hops : r.opsMatch)
    (hc : ∀ p ∈ r.parts, ∀ w ∈ p.copy,
      s.bears (.request m) (w.origin m r.ctx) ∨ w.gen = (s.slot r.ctx w.index).gen) :
    DrainLaws t ∧ KeepsDrain s t := by
  have hslot : t.slot = s.slot := by
    funext c w
    rw [State.slot, State.slot, hw]
  have hcount : ∀ job j, t.counted job j ↔ s.counted job j := fun job j => by
    rw [State.counted, hd]
    exact Iff.rfl
  have hold : ∀ j, (∀ m, j ≠ .request m) → ((t.has j ↔ s.has j) ∧ ∀ u, t.bears j u ↔ s.bears j u) := by
    intro j hne
    cases j with
    | request m' => exact (hne m' rfl).elim
    | entry id => exact ⟨by simp only [State.has, hp], fun u => by simp only [State.bears, hp]⟩
    | orphan k => exact ⟨orphanOn_congr ht k, fun u => by simp only [State.bears, orphanAt_congr ht]⟩
  have hhas : ∀ j, s.has j → t.has j := by
    intro j hj
    cases j with
    | request m' =>
      show t.record m' ≠ none
      rw [hrec]
      split
      · nofun
      · exact hj
    | entry id => exact (hold (.entry id) nofun).1.2 hj
    | orphan k => exact (hold (.orphan k) nofun).1.2 hj
  have hkeeps : KeepsDrain s t := (KeepsDrain.refl t).of_before hd fun j hne hj => (hold j hne).1.1 hj
  refine ⟨⟨hd ▸ hs.shaped, fun job j hcj => hhas j (hs.stands job j ((hcount job j).1 hcj)), fun j u hb hg => ?_,
    fun m' r' hr' => ?_⟩, hkeeps⟩
  · rw [hcount]
    rw [hslot] at hg
    cases j with
    | entry id => exact hs.old _ u (((hold (.entry id) nofun).2 u).1 hb) hg
    | orphan k => exact hs.old _ u (((hold (.orphan k) nofun).2 u).1 hb) hg
    | request m' =>
      obtain ⟨r', hr', p, hpm, w, hwc, rfl⟩ := hb
      rw [hrec] at hr'
      split at hr'
      · next e =>
        subst e
        cases hr'
        exact (hc p hpm w hwc).elim (fun hb => hs.old _ _ hb hg) fun he => (hg he).elim
      · exact hs.old _ _ ⟨r', hr', p, hpm, w, hwc, rfl⟩ hg
  · rw [hrec] at hr'
    split at hr'
    · cases hr'
      exact hops
    · exact hs.parts m' r' hr'

/-- The operations made from a request match its parts (R67, R68). -/
theorem requestOps_match {r : Request} {o : WordOp} (h : o ∈ requestOps r) :
    o.ctx = r.ctx ∧ ∃ p ∈ r.parts, p.label = o.label ∧ ∃ w ∈ p.copy, w.index = o.winIx ∧ w.gen = o.gen := by
  obtain ⟨p, hp, ho⟩ := List.mem_flatMap.1 h
  unfold partOps at ho
  split at ho
  · exact nomatch ho
  · next w hw =>
    obtain ⟨sh, -, rfl⟩ := List.mem_map.1 ho
    exact ⟨rfl, p, hp, rfl, w, hw, rfl, rfl⟩

theorem heldRequest_opsMatch (s : State) (r : Request) : (s.heldRequest r).opsMatch := by
  intro o ho
  have ho : o ∈ s.translatedOps r := ho
  rw [← requestOps_translatedOps] at ho
  obtain ⟨o', ho', rfl⟩ := List.mem_map.1 ho
  have h := requestOps_match ho'
  exact h

theorem opsMatch_of_noOps {r : Request} (h : r.ops = []) : r.opsMatch := by
  intro o ho
  rw [h] at ho
  exact nomatch ho

/-! ## Work that passes into other work (R143) -/

/-- The request of record m passes into the work J, of which the drain takes what it takes of the request. -/
theorem drain_of_passing {s t : State} {m : Master} {f : DrainJob → Member → Option Member} {J : DrainJob → Item → Prop}
    (hs : DrainLaws s) (hw : t.windows = s.windows) (hd : t.drain = s.drain.update f)
    (hf : ∀ job, Replaces (f job) (.request m) (J job))
    (hrec : ∀ m', t.record m' = if m = m' then none else s.record m')
    (hhas : ∀ j, (∀ m', j ≠ .request m') → s.has j → t.has j) (hJ : ∀ job j, J job j → t.has j)
    (hb : ∀ j u, (∀ m', j ≠ .request m') → t.bears j u →
      s.bears j u ∨ s.bears (.request m) u ∧ ∀ job : DrainJob, job.takes u = true → J job j) :
    DrainLaws t ∧ KeepsDrain s t := by
  have hslot : t.slot = s.slot := by
    funext c w
    rw [State.slot, State.slot, hw]
  have hcount : ∀ job j, t.counted job j ↔ s.counted job j ∧ j ≠ .request m ∨ s.counted job (.request m) ∧ J job j := by
    intro job j
    rw [State.counted, hd]
    exact update_counts hs.shaped hf job j
  have hgone : ¬ t.has (.request m) := fun h => h (by rw [hrec, if_pos rfl])
  have hother : ∀ m', Item.request m' ≠ .request m → (t.record m' = s.record m') := fun m' hne => by
    rw [hrec, if_neg fun e : m = m' => hne (e ▸ rfl)]
  have hhas' : ∀ j, j ≠ .request m → s.has j → t.has j := by
    intro j hne hj
    cases j with
    | request m' =>
      show t.record m' ≠ none
      rw [hother m' hne]
      exact hj
    | entry id => exact hhas _ nofun hj
    | orphan k => exact hhas _ nofun hj
  have hb' : ∀ j u, t.bears j u →
      s.bears j u ∨ s.bears (.request m) u ∧ ∀ job : DrainJob, job.takes u = true → J job j := by
    intro j u hbj
    cases j with
    | request m' =>
      have hne : Item.request m' ≠ .request m := fun e => hgone (e ▸ bears_has hbj)
      simp only [State.bears, hother m' hne] at hbj
      exact .inl hbj
    | entry id => exact hb _ u nofun hbj
    | orphan k => exact hb _ u nofun hbj
  refine ⟨⟨hd ▸ update_shaped hs.shaped hf, fun job j hc => ?_, fun j u hbj hg => ?_, fun m' r' hr' => ?_⟩,
    fun job j hc hj => ?_, fun job m' j u hc hne hbj hm hu hn => ?_⟩
  · rcases (hcount job j).1 hc with ⟨h1, hne⟩ | ⟨-, h2⟩
    · exact hhas' j hne (hs.stands job j h1)
    · exact hJ job j h2
  · rw [hslot] at hg
    refine (hcount _ j).2 ((hb' j u hbj).imp
      (fun h => ⟨hs.old j u h hg, fun e => hgone (e ▸ bears_has hbj)⟩) fun h => ?_)
    exact ⟨hs.old _ u h.1 hg, h.2 _ (takes_drain u)⟩
  · rw [hrec] at hr'
    split at hr'
    · exact nomatch hr'
    · exact hs.parts m' r' hr'
  · exact (hcount job j).2 (.inl ⟨hc, fun e => hgone (e ▸ hj)⟩)
  · rcases hb' j u hbj with h | ⟨h1, h2⟩
    · exact (hn (bears_has h)).elim
    · have he : m' = m := hm.symm.trans (bears_request_master h1)
      subst he
      exact (hcount job j).2 (.inr ⟨hc, h2 job hu⟩)

/-- A posted WRITE passes into its entries (R57, R143). -/
theorem flows_posted {s : State} {m : Master} {r : Request} (hs : DrainLaws s) (hr : s.record m = some r) :
    Flows s (s.posted m r) := by
  have hrec : ∀ m', (s.posted m r).record m' = if m = m' then none else s.record m' := fun m' =>
    setRecord_record s m m' none
  have hpwq : (s.posted m r).pwq = s.pwq ++ entriesOf m r s.nextEntry (requestOps r) := rfl
  have h := drain_of_passing (t := s.posted m r) hs rfl rfl (fun job => replaces_afterPosting m _) hrec
    (fun j hne hj => ?_) (fun job j hj => ?_) fun j u hne hb => ?_
  · exact ⟨h.1, h.2, .refl _, fun m' hm' => by
      rw [hrec] at hm'
      split at hm'
      · exact (hm' rfl).elim
      · exact hm'⟩
  · cases j with
    | request m' => exact (hne m' rfl).elim
    | entry id =>
      obtain ⟨e, he, hid⟩ := hj
      exact ⟨e, by rw [hpwq]; exact List.mem_append_left _ he, hid⟩
    | orphan k => exact hj
  · obtain ⟨id, hid, rfl⟩ := hj
    obtain ⟨e, he, hid⟩ := List.mem_filterMap.1 hid
    refine ⟨e, by rw [hpwq]; exact List.mem_append_right _ he, ?_⟩
    split at hid
    · exact Option.some.inj hid
    · exact nomatch hid
  · cases j with
    | request m' => exact (hne m' rfl).elim
    | orphan k => exact .inl hb
    | entry id =>
      obtain ⟨e, he, rfl, rfl⟩ := hb
      rw [hpwq] at he
      rcases List.mem_append.1 he with he | he
      · exact .inl ⟨e, he, rfl, rfl⟩
      · obtain ⟨o, ho, i, hi⟩ := mem_entriesOf he
        obtain ⟨hctx, p, hp, -, w, hw, hix, hgen⟩ := requestOps_match ho
        refine .inr ⟨⟨r, hr, p, hp, w, hw, ?_⟩, fun job hj => ⟨e.id, List.mem_filterMap.2 ⟨e, he, if_pos hj⟩, rfl⟩⟩
        rw [hi, WinCopy.origin, hix, hgen]
        rfl

/-- An abandoned request passes into its orphans (R62, R63, R143). -/
theorem flows_abandoned {s t : State} {m : Master} {r : Request} (hs : DrainLaws s) (hr : s.record m = some r)
    (hw : t.windows = s.windows) (hp : t.pwq = s.pwq) (hl : t.log = s.log)
    (hrec : ∀ m', t.record m' = if m = m' then none else s.record m')
    (hd : t.drain = s.drain.update fun job => Member.afterAbandonment m (qualifyingOrphans m r job))
    (htag : ∀ k, (t.tag k = s.tag k) ∨ ∃ l o, r.opOnTag k = some o ∧ (∀ x, ¬ s.orphanAt k x) ∧
      (t.tag k).state = .live l ∧ l.owner = .orphan (orphanOf m o))
    (hall : ∀ k o, r.opOnTag k = some o → t.orphanAt k (orphanOf m o)) : Flows s t := by
  have h := drain_of_passing hs hw hd (fun job => replaces_afterAbandonment m _) hrec
    (fun j hne hj => ?_) (fun job j hj => ?_) fun j u hne hb => ?_
  · exact ⟨h.1, h.2, hl ▸ .refl _, fun m' hm' => by
      rw [hrec] at hm'
      split at hm'
      · exact (hm' rfl).elim
      · exact hm'⟩
  · cases j with
    | request m' => exact (hne m' rfl).elim
    | entry id => simpa only [State.has, hp] using hj
    | orphan k =>
      obtain ⟨o, ho⟩ := (orphanOn_iff s k).1 hj
      rcases htag k with ht | ⟨l, o', -, hno, -⟩
      · refine (orphanOn_iff t k).2 ⟨o, ?_⟩
        unfold State.orphanAt
        rw [ht]
        exact ho
      · exact (hno o ho).elim
  · obtain ⟨k, hk, rfl⟩ := hj
    obtain ⟨-, hk⟩ := List.mem_filter.1 hk
    split at hk
    · exact nomatch hk
    · next o ho => exact (orphanOn_iff t k).2 ⟨_, hall k o ho⟩
  · cases j with
    | request m' => exact (hne m' rfl).elim
    | entry id => exact .inl (by simpa only [State.bears, hp] using hb)
    | orphan k =>
      obtain ⟨x, ⟨l', hl', hx⟩, rfl⟩ := hb
      rcases htag k with ht | ⟨l, o, hop, -, hlive, hown⟩
      · rw [ht] at hl'
        exact .inl ⟨x, ⟨l', hl', hx⟩, rfl⟩
      · rw [hlive] at hl'
        cases hl'
        rw [hown] at hx
        cases hx
        refine .inr ⟨bears_of_op hs.parts hr (opOnTag_mem hop).1, fun job hj => ⟨k, ?_, rfl⟩⟩
        refine List.mem_filter.2 ⟨mem_tagNos k, ?_⟩
        rw [hop]
        exact hj

/-! ## Translations (R24 to R31, R43) -/

/-- A copy that a translation may leave in a part is one its record bore, or current (R33, R37). -/
theorem bears_or_current {s : State} {m : Master} {r : Request} {found : Option WinCopy} {w : WinCopy}
    (hst : StreamsCurrent s) (hr : s.record m = some r)
    (hf : ∀ x, found = some x → x.gen = (s.slot r.ctx x.index).gen) (h : s.mayCopy m r found w) :
    s.bears (.request m) (w.origin m r.ctx) ∨ w.gen = (s.slot r.ctx w.index).gen := by
  rcases h with ⟨p, hp, hw⟩ | h | h
  · exact .inl ⟨r, hr, p, hp, w, hw, rfl⟩
  · exact .inr (hf w h)
  · obtain ⟨-, hx, -⟩ := hst m _ h
    exact .inr (congrArg WinCopy.gen hx)

theorem withParts_record_all (s : State) (m m' : Master) (r : Request) (p1 : Part) (p2 : Option Part)
    (bs : List FaultBody) : (s.withParts m r p1 p2 bs).record m' =
      if m = m' then some { r with part1 := p1, part2 := p2 } else s.record m' :=
  setRecord_record s m m' (some { r with part1 := p1, part2 := p2 })

/-- The end of a translation keeps the laws of the drain (R43, R53, R143). -/
theorem flows_completeTranslation {s : State} {m : Master} {r : Request} (hs : DrainLaws s) (hr : s.record m = some r)
    (h : r.part1.status ≠ .waiting ∧ ∀ p ∈ r.part2, p.status ≠ .waiting) :
    Flows s (s.completeTranslation m r) := by
  rcases completeTranslation_cases (s := s) (m := m) h with he | ⟨-, he⟩ | he
  · rw [he, holdRequest_eq_judge]
    obtain ⟨hl, hk⟩ := drain_of_written (t := s.setRecord m (some (s.heldRequest r))) hs rfl rfl rfl rfl
      (fun m' => setRecord_record s m m' _) (heldRequest_opsMatch s r)
      fun p hp w hw => .inl ⟨r, hr, p, hp, w, hw, rfl⟩
    have hset : Flows s (s.setRecord m (some (s.heldRequest r))) := ⟨hl, hk, .refl _, fun m' hm' => by
      rw [setRecord_record] at hm'
      split at hm'
      · next e => exact e ▸ fun hn => nomatch hn.symm.trans hr
      · exact hm'⟩
    exact hset.evolves (evolves_judgeReadiness _ m)
  · rw [he, postRequest_eq_settleHead]
    exact (flows_posted hs hr).evolves (evolves_settleHead _)
  · rw [he]
    exact (evolves_replyRequest s m _).flows hs

/-- A translation that goes on keeps the laws of the drain. -/
theorem TranslationGoesOn.flows {s u : State} {m : Master} {r : Request} {found : Option WinCopy}
    (h : TranslationGoesOn s m r found u) (hs : DrainLaws s) (hst : StreamsCurrent s) (hr : s.record m = some r)
    (hops : r.ops = []) (hf : ∀ x, found = some x → x.gen = (s.slot r.ctx x.index).gen) : Flows s u := by
  have hlog : ∀ bs : List FaultBody, s.log.growsTo (bs.foldl FaultLog.handIn s.log) := fun bs => ⟨bs, rfl⟩
  have hrecs : ∀ p1 p2 bs m', (s.withParts m r p1 p2 bs).record m' ≠ none → s.record m' ≠ none := by
    intro p1 p2 bs m' hm'
    rw [withParts_record_all] at hm'
    split at hm'
    · next e => exact e ▸ fun hn => nomatch hn.symm.trans hr
    · exact hm'
  cases h with
  | resolved bs p1 p2 h1 h2 hc =>
    obtain ⟨hl, hk⟩ := drain_of_written (t := s.withParts m r p1 p2 bs) hs rfl rfl rfl rfl
      (fun m' => withParts_record_all s m m' r p1 p2 bs) (opsMatch_of_noOps (by exact hops))
      fun p hp w hw => bears_or_current (r := r) hst hr hf (hc p (by simpa [Request.parts] using hp) w hw)
    obtain ⟨hl', hk', hlog', hreq'⟩ := flows_completeTranslation hl (withParts_record s m r p1 p2 bs) ⟨h1, h2⟩
    refine ⟨hl', hk'.of_before rfl fun j hne hj => ?_, (hlog bs).trans hlog',
      fun m' hm' => hrecs _ _ _ m' (hreq' m' hm')⟩
    cases j with
    | request m' => exact (hne m' rfl).elim
    | entry id => exact hj
    | orphan k => exact hj
  | lookedUp bs p1 h1 hg hc =>
    have hcopy : ∀ p ∈ Request.parts { r with part1 := p1, part2 := some (secondPart r) }, ∀ w ∈ p.copy,
        s.bears (.request m) (w.origin m r.ctx) ∨ w.gen = (s.slot r.ctx w.index).gen := by
      intro p hp w hw
      have hp : p = p1 ∨ p = secondPart r := by simpa [Request.parts] using hp
      rcases hp with rfl | rfl
      · exact bears_or_current hst hr hf (hc w hw)
      · exact nomatch hw
    obtain ⟨hl, hk⟩ := drain_of_written (t := (s.withParts m r p1 (some (secondPart r)) bs).joinWaitList _) hs rfl rfl
      rfl rfl (fun m' => withParts_record_all s m m' r p1 (some (secondPart r)) bs) (opsMatch_of_noOps (by exact hops))
      hcopy
    exact ⟨hl, hk, hlog bs, hrecs p1 (some (secondPart r)) bs⟩

end Sys2Proof.Machine
end

section
/-! SUPPORT. The laws of the drain over every event (R139 to R145). -/

namespace Sys2Proof.Machine

/-! ## Changes that no drain reads -/

theorem Quiet.evolves {s t : State} (h : Quiet s t) : Evolves s t :=
  evolves_of_same h.windows h.records h.pwq (fun k o => by rw [orphanAt_congr h.tags]) h.drain (h.log ▸ .refl _)

theorem Quiet.keepsDrain_before {s a b : State} (h : Quiet s a) (k : KeepsDrain a b) : KeepsDrain s b :=
  k.of_before h.drain fun _ _ hj => h.evolves.has hj

/-- Where windows, records, queue, orphans and drain stand, so do the laws. -/
theorem drain_of_same {s t : State} (hs : DrainLaws s) (hw : t.windows = s.windows) (hr : t.records = s.records)
    (hp : t.pwq = s.pwq) (ht : t.port.tags = s.port.tags) (hd : t.drain = s.drain) : DrainLaws t ∧ KeepsDrain s t := by
  have h : Evolves s { t with log := s.log } :=
    evolves_of_same hw hr hp (fun k o => by rw [orphanAt_congr (by exact ht)]) hd (.refl _)
  obtain ⟨⟨h1, h2, h3, h4⟩, ⟨h5, h6⟩, -, -⟩ := h.flows hs
  exact ⟨⟨h1, h2, h3, h4⟩, ⟨h5, h6⟩⟩

theorem drainLaws_of_same {s t : State} (hs : DrainLaws s) (hw : t.windows = s.windows) (hr : t.records = s.records)
    (hp : t.pwq = s.pwq) (ht : t.port.tags = s.port.tags) (hd : t.drain = s.drain) : DrainLaws t :=
  (drain_of_same hs hw hr hp ht hd).1

/-! ## Acceptance and delivery (R32, R49, R52) -/

/-- The windows of the stream records are current (R33). -/
theorem streamHit_gen {s : State} (hst : StreamsCurrent s) {m : Master} {c : Ctx} {g : Nat} {w : WinCopy}
    (h : s.streamHit m c g = some w) : w.gen = (s.slot c w.index).gen := by
  obtain ⟨-, hx, -⟩ := hst m _ (streamHit_stream h)
  exact congrArg WinCopy.gen hx

theorem drain_acceptOffer {s : State} (hs : DrainLaws s) (hst : StreamsCurrent s) (m : Master) (o : Offer) :
    DrainLaws (s.acceptOffer m o) ∧ KeepsDrain s (s.acceptOffer m o) ∧ s.log.growsTo (s.acceptOffer m o).log ∧
      ∀ m', (s.acceptOffer m o).record m' ≠ none → m = m' ∨ s.record m' ≠ none := by
  have hq := quiet_takeOffer s m o
  have htake := hq.evolves.flows hs
  unfold State.acceptOffer
  dsimp only
  split
  · have h := (htake.evolves (evolves_handIn _ (unboundFault m (s.channel m).serial o))).evolves
      (evolves_sendReply _ m unboundReply)
    exact ⟨h.laws, h.keeps, h.log, fun m' hm' => .inr (h.requests m' hm')⟩
  · next c _ =>
    have hrec := fun m' => setRecord_record (s.takeOffer m o) m m' (some (newRequest o (s.channel m).serial c))
    have hreq : ∀ m', ((s.takeOffer m o).setRecord m (some (newRequest o (s.channel m).serial c))).record m' ≠ none →
        m = m' ∨ s.record m' ≠ none := fun m' hm' => by
      rw [hrec] at hm'
      split at hm'
      · next e => exact .inl e
      · exact .inr hm'
    have hcopy : ∀ p ∈ (newRequest o (s.channel m).serial c).parts, ∀ w ∈ p.copy,
        (s.takeOffer m o).bears (.request m) (w.origin m c) ∨ w.gen = ((s.takeOffer m o).slot c w.index).gen := by
      intro p hp w hw
      have hp : p ∈ [(newRequest o (s.channel m).serial c).part1] := hp
      rw [List.mem_singleton] at hp
      subst hp
      exact nomatch hw
    obtain ⟨hl, hk⟩ := drain_of_written
      (t := (s.takeOffer m o).setRecord m (some (newRequest o (s.channel m).serial c)))
      htake.laws rfl rfl rfl rfl hrec (opsMatch_of_noOps rfl) hcopy
    have hnew := (hrec m).trans (if_pos rfl)
    have hbefore : ∀ j, (∀ m', j ≠ .request m') →
        ((s.takeOffer m o).setRecord m (some (newRequest o (s.channel m).serial c))).has j → s.has j := by
      intro j hne hj
      cases j with
      | request m' => exact (hne m' rfl).elim
      | entry id => exact hj
      | orphan k => exact hj
    split
    · next w hw =>
      have h := (resolveFirst_goesOn hnew rfl (some w)).flows hl hst hnew rfl fun x hx => by
        cases hx
        exact streamHit_gen hst hw
      exact ⟨h.laws, h.keeps.of_before rfl hbefore, h.log, fun m' hm' => hreq m' (h.requests m' hm')⟩
    · obtain ⟨hl', hk'⟩ := drain_of_same (t := ((s.takeOffer m o).setRecord m
        (some (newRequest o (s.channel m).serial c))).joinWaitList
          (firstLookup m (newRequest o (s.channel m).serial c))) hl rfl rfl rfl rfl rfl
      exact ⟨hl', hk'.of_before rfl hbefore, .refl _, hreq⟩

theorem flows_deliver {s : State} {l : Lookup} (hs : DrainLaws s) (hst : StreamsCurrent s)
    (hw : LookupsMatchRecords s) (hl : s.engine.live = some l) :
    Flows s (State.deliver { s with engine := .idle } l) := by
  obtain ⟨-, r, hr, hb⟩ := lookupsBut_of_delivery hl hw
  have hgo := deliver_goesOn (s := { s with engine := .idle }) hr hb
  have hcur := streamsCurrent_loadStream (s := { s with engine := .idle }) hst l l.granule.toNat
  obtain ⟨streams, he⟩ := loadStream_fields { s with engine := .idle } l
    (State.findWindow { s with engine := .idle } l.ctx l.granule.toNat)
  rw [he] at hgo hcur
  obtain ⟨-, hops, hctx, -⟩ := hb
  have hmid : Evolves s { s with engine := .idle, streams := streams } :=
    evolves_of_same rfl rfl rfl (fun _ _ => Iff.rfl) rfl (.refl _)
  have h := hgo.flows (hmid.drainLaws hs) hcur hr hops fun x hx => by
    rw [← hctx]
    exact congrArg WinCopy.gen (findWindow_current hx).2
  exact ⟨h.laws, h.keeps.of_before rfl fun _ _ hj => hmid.has hj, h.log, h.requests⟩

/-! ## CRSTm# (R62, R63, R143) -/

theorem flows_assertChannelReset {s : State} (hs : DrainLaws s) (hw : WorkLaws s) (m : Master) :
    Flows s (s.assertChannelReset m) := by
  obtain ⟨hp, -, -, hl⟩ := assertChannelReset_queue s m
  cases hr : s.record m with
  | none =>
    rw [assertChannelReset_eq, abandonRequest_of_none (by exact hr)]
    refine Evolves.flows ?_ hs
    exact evolves_of_same rfl rfl rfl (fun _ _ => Iff.rfl) rfl (.refl _)
  | some r =>
    have htag := assertChannelReset_tag_cases (m := m) hw.tags
    refine flows_abandoned hs hr (by rw [assertChannelReset_of_some hr]) hp hl
      (fun m' => assertChannelReset_record s m m') (by rw [assertChannelReset_of_some hr]) (fun k => ?_)
      fun k o hop => ?_
    · rcases htag k with ⟨ht, -⟩ | ⟨l, label, r', o, hlive, ho, hr', hop, ht⟩
      · exact .inl ht
      · rw [hr] at hr'
        cases hr'
        exact .inr ⟨_, o, hop, not_orphanAt_of_live hlive (by rw [ho]; exact nofun), by rw [ht], rfl⟩
    · obtain ⟨hmem, hst⟩ := opOnTag_mem hop
      obtain ⟨-, ha⟩ := (tagsMatchWork_iff s).1 hw.tags
      obtain ⟨l, hlive, -, -, ho⟩ := works_live (ha k) (owner := .request m o.label)
        ⟨r, hr, o, hmem, hst, rfl, rfl, rfl⟩
      rcases htag k with ⟨-, hne⟩ | ⟨l', label, r', o', -, -, hr', hop', ht⟩
      · exact (hne l o.label hlive ho).elim
      · rw [hr] at hr'
        cases hr'
        rw [hop] at hop'
        cases hop'
        exact ⟨_, by rw [ht], rfl⟩

/-! ## The beginning of a drain (R139 to R142) -/

/-- The member that a record makes in a drain that begins (R141, R142). -/
def State.requestMember (s : State) (job : DrainJob) (m : Master) : Option Member :=
  match s.record m with
  | none => none
  | some r => if job.takesRequest m r then some (.request m true [] []) else none

/-- The member that an entry makes (R141, R142). -/
def Entry.member (job : DrainJob) (e : Entry) : Option Member := if job.takes e.origin then some (.entry e.id) else none

/-- The member that a tag makes, when it carries an orphan (R141, R142). -/
def State.orphanMember (s : State) (job : DrainJob) (k : TagNo) : Option Member :=
  match (s.tag k).state with
  | .live { owner := .orphan o, .. } => if job.takes o.origin then some (.orphan k) else none
  | _ => none

theorem drainMembers_eq (s : State) (job : DrainJob) :
    s.drainMembers job = masters.filterMap (s.requestMember job) ++ s.pwq.filterMap (Entry.member job) ++
      tagNos.filterMap (s.orphanMember job) := rfl

theorem requestMember_eq_some (s : State) (job : DrainJob) (m : Master) (x : Member) :
    s.requestMember job m = some x ↔ ∃ r ∈ s.record m, job.takesRequest m r = true ∧ x = .request m true [] [] := by
  unfold State.requestMember
  cases s.record m with
  | none => simp
  | some r => cases h : job.takesRequest m r <;> simp [h, @eq_comm Member x]

theorem entryMember_eq_some (job : DrainJob) (e : Entry) (x : Member) :
    e.member job = some x ↔ job.takes e.origin = true ∧ x = .entry e.id := by
  unfold Entry.member
  cases h : job.takes e.origin <;> simp [@eq_comm Member x]

theorem orphanMember_eq_some (s : State) (job : DrainJob) (k : TagNo) (x : Member) :
    s.orphanMember job k = some x ↔ ∃ o, s.orphanAt k o ∧ job.takes o.origin = true ∧ x = .orphan k := by
  unfold State.orphanMember State.orphanAt
  cases hk : (s.tag k).state with
  | free => simp
  | quarantined w => simp
  | live l =>
    obtain ⟨word, work, owner, count⟩ := l
    cases owner with
    | request m label => simp
    | pwqEntry => simp
    | orphan o => cases h : job.takes o.origin <;> simp [h, @eq_comm Member x]

/-- The work that the members stand for with which a drain begins (R141, R142). -/
theorem drainMembers_counts (s : State) (job : DrainJob) (j : Item) :
    (∃ x ∈ s.drainMembers job, x.counts j) ↔
      match j with
      | .request m => ∃ r ∈ s.record m, job.takesRequest m r = true
      | .entry id => ∃ e ∈ s.pwq, e.id = id ∧ job.takes e.origin = true
      | .orphan k => ∃ o, s.orphanAt k o ∧ job.takes o.origin = true := by
  have hreq : ∀ x, x ∈ masters.filterMap (s.requestMember job) ↔
      ∃ m, ∃ r ∈ s.record m, job.takesRequest m r = true ∧ x = .request m true [] [] := fun x => by
    simp only [List.mem_filterMap, requestMember_eq_some, mem_masters, true_and]
  have hent : ∀ x, x ∈ s.pwq.filterMap (Entry.member job) ↔
      ∃ e ∈ s.pwq, job.takes e.origin = true ∧ x = .entry e.id := fun x => by
    simp only [List.mem_filterMap, entryMember_eq_some]
  have horph : ∀ x, x ∈ tagNos.filterMap (s.orphanMember job) ↔
      ∃ k o, s.orphanAt k o ∧ job.takes o.origin = true ∧ x = .orphan k := fun x => by
    simp only [List.mem_filterMap, orphanMember_eq_some, mem_tagNos, true_and]
  simp only [drainMembers_eq, List.mem_append, or_and_right, exists_or, hreq, hent, horph]
  cases j with
  | request m =>
    constructor
    · rintro ((⟨x, ⟨m', r, hr, hj, rfl⟩, hc⟩ | ⟨x, ⟨e, -, -, rfl⟩, hc⟩) | ⟨x, ⟨k, o, -, -, rfl⟩, hc⟩)
      · obtain ⟨rfl, -⟩ := hc
        exact ⟨r, hr, hj⟩
      · exact nomatch hc
      · exact nomatch hc
    · rintro ⟨r, hr, hj⟩
      exact .inl (.inl ⟨_, ⟨m, r, hr, hj, rfl⟩, rfl, rfl⟩)
  | entry id =>
    constructor
    · rintro ((⟨x, ⟨m', r, hr, hj, rfl⟩, hc⟩ | ⟨x, ⟨e, he, hj, rfl⟩, hc⟩) | ⟨x, ⟨k, o, -, -, rfl⟩, hc⟩)
      · exact nomatch hc
      · exact ⟨e, he, hc, hj⟩
      · exact nomatch hc
    · rintro ⟨e, he, rfl, hj⟩
      exact .inl (.inr ⟨_, ⟨e, he, hj, rfl⟩, rfl⟩)
  | orphan k =>
    constructor
    · rintro ((⟨x, ⟨m', r, hr, hj, rfl⟩, hc⟩ | ⟨x, ⟨e, he, hj, rfl⟩, hc⟩) | ⟨x, ⟨k', o, ho, hj, rfl⟩, hc⟩)
      · exact nomatch hc
      · exact nomatch hc
      · obtain rfl : k' = k := hc
        exact ⟨o, ho, hj⟩
    · rintro ⟨o, ho, hj⟩
      exact .inr ⟨_, ⟨k, o, ho, hj, rfl⟩, rfl⟩

theorem drainMembers_length {s : State} (h : s.pwq.length ≤ Config.pwqCapacity) (job : DrainJob) :
    (s.drainMembers job).length ≤ 18 := by
  have hcap : Config.pwqCapacity = 8 := rfl
  have hm : masters.length = 4 := rfl
  have hk : tagNos.length = 6 := rfl
  rw [drainMembers_eq, List.length_append, List.length_append]
  refine (Nat.add_le_add (Nat.add_le_add (List.length_filterMap_le _ _) (List.length_filterMap_le _ _))
    (List.length_filterMap_le _ _)).trans ?_
  omega

theorem drainMembers_shaped {s : State} {job : DrainJob} {x : Member} (h : x ∈ s.drainMembers job) : x.shaped := by
  rw [drainMembers_eq, List.mem_append, List.mem_append, List.mem_filterMap, List.mem_filterMap,
    List.mem_filterMap] at h
  rcases h with (⟨m, -, hx⟩ | ⟨e, -, hx⟩) | ⟨k, -, hx⟩
  · obtain ⟨r, -, -, rfl⟩ := (requestMember_eq_some s job m x).1 hx
    exact ⟨rfl, rfl⟩
  · obtain ⟨-, rfl⟩ := (entryMember_eq_some job e x).1 hx
    trivial
  · obtain ⟨o, -, -, rfl⟩ := (orphanMember_eq_some s job k x).1 hx
    trivial

theorem beginDrain_counts (s u : State) (job job' : DrainJob) (j : Item) :
    (u.beginDrain job (s.drainMembers job)).counted job' j ↔ job = job' ∧ ∃ x ∈ s.drainMembers job, x.counts j := by
  unfold State.counted Drain.counts State.beginDrain
  cases h : s.drainMembers job with
  | nil => simp
  | cons x rest =>
    simp only [DrainState.draining.injEq]
    constructor
    · rintro ⟨_, ⟨hj, rfl⟩, hc⟩
      exact ⟨hj, hc⟩
    · rintro ⟨hj, hc⟩
      exact ⟨_, ⟨hj, rfl⟩, hc⟩

theorem idle_of_not_draining {s : State} (h : s.draining = false) : s.drain.state = .idle := by
  by_contra hn
  rw [(draining_iff s).2 hn] at h
  exact nomatch h

/-- While the tracker is IDLE a drain begins, of the one window whose generation becomes old, if any does. -/
theorem drain_of_beginning {s t u : State} {job : DrainJob} (hs : DrainLaws s) (hidle : s.drain.state = .idle)
    (hq : s.pwq.length ≤ Config.pwqCapacity) (hr : t.records = s.records) (hp : t.pwq = s.pwq)
    (ht : t.port.tags = s.port.tags) (hd : t.drain = (u.beginDrain job (s.drainMembers job)).drain)
    (hold : ∀ c w, (t.slot c w).gen = (s.slot c w).gen ∨ job = .commit c w (s.slot c w).gen) :
    DrainLaws t ∧ KeepsDrain s t := by
  have hrec : t.record = s.record := by
    funext m
    simp [State.record, hr]
  have hnone : ∀ job' j, ¬ s.counted job' j := by
    rintro job' j ⟨members, hdr, -⟩
    rw [hdr] at hidle
    exact nomatch hidle
  have hhas : ∀ j, t.has j ↔ s.has j := fun j => by
    cases j <;> simp only [State.has, hrec, hp, orphanOn_congr ht]
  have hbears : ∀ j o, t.bears j o ↔ s.bears j o := fun j o => by
    cases j <;> simp only [State.bears, hrec, hp, orphanAt_congr ht]
  have hcount : ∀ job' j, t.counted job' j ↔ job = job' ∧ ∃ x ∈ s.drainMembers job, x.counts j := fun job' j => by
    rw [State.counted, hd]
    exact beginDrain_counts s u job job' j
  refine ⟨⟨?_, fun job' j hc => ?_, fun j o hb hg => ?_, fun m r h => hs.parts m r (hrec ▸ h)⟩,
    fun job' j hc => (hnone _ _ hc).elim, fun job' m j o hc => (hnone _ _ hc).elim⟩
  · rw [hd]
    intro job' members hst
    have hmem : members = s.drainMembers job ∧ members ≠ [] := by
      unfold State.beginDrain at hst
      cases hm : s.drainMembers job with
      | nil => rw [hm] at hst; exact nomatch hst
      | cons x rest =>
        rw [hm] at hst
        cases hst
        exact ⟨rfl, nofun⟩
    obtain ⟨rfl, hne⟩ := hmem
    exact ⟨hne, drainMembers_length hq job, fun x hx => drainMembers_shaped hx⟩
  · obtain ⟨-, hx⟩ := (hcount job' j).1 hc
    rw [drainMembers_counts] at hx
    rw [hhas]
    cases j with
    | request m =>
      obtain ⟨r, hr, -⟩ := hx
      exact fun hn => nomatch hn.symm.trans hr
    | entry id =>
      obtain ⟨e, he, hid, -⟩ := hx
      exact ⟨e, he, hid⟩
    | orphan k =>
      obtain ⟨o, ho, -⟩ := hx
      exact (orphanOn_iff s k).2 ⟨o, ho⟩
  · rw [hbears] at hb
    have hcur : o.gen = (s.slot o.ctx o.winIx).gen := by
      by_contra hne
      exact hnone _ _ (hs.old j o hb hne)
    have hjob : job = o.drain := by
      rcases hold o.ctx o.winIx with h | h
      · exact (hg (hcur.trans h.symm)).elim
      · rw [h, ← hcur]
        rfl
    refine (hcount _ j).2 ⟨hjob, (drainMembers_counts s job j).2 ?_⟩
    subst hjob
    cases j with
    | request m =>
      obtain ⟨r, hr, p, hpm, w, hw, rfl⟩ := hb
      refine ⟨r, hr, List.any_eq_true.2 ⟨p, hpm, ?_⟩⟩
      rw [Option.mem_def.1 hw]
      simp [WinCopy.origin]
    | entry id =>
      obtain ⟨e, he, hid, rfl⟩ := hb
      exact ⟨e, he, hid, takes_drain _⟩
    | orphan k =>
      obtain ⟨x, hx, rfl⟩ := hb
      exact ⟨x, hx, takes_drain _⟩

theorem drain_commitEvent {s : State} (hs : DrainLaws s) (hq : PwqInOrder s) {c : Ctx} {w : WinIx}
    (h : s.commitRefusal c w = none) : DrainLaws (s.commitEvent c w) ∧ KeepsDrain s (s.commitEvent c w) := by
  obtain ⟨-, hidle, -, -⟩ := commitRefusal_eq_none.1 h
  refine drain_of_beginning (u := s) (job := .commit c w (s.slot c w).gen) hs hidle hq.1 rfl rfl rfl rfl fun c' w' => ?_
  rw [commitEvent_slot]
  split
  · next e =>
    obtain ⟨rfl, rfl⟩ := e
    exact .inr rfl
  · exact .inl rfl

theorem drain_bindEvent {s : State} (hs : DrainLaws s) (hq : PwqInOrder s) (m : Master) (c : Option Ctx)
    (h : s.drain.state = .idle) : DrainLaws (s.bindEvent m c) ∧ KeepsDrain s (s.bindEvent m c) :=
  drain_of_beginning (u := s) (job := .bind m) hs h hq.1 rfl rfl rfl rfl fun _ _ => .inl rfl

/-! ## Every event -/

theorem evolves_cleared (s : State) : Evolves s s.afterCleared := by
  refine evolves_of_same rfl rfl rfl (fun k o => ?_) rfl (.refl _)
  unfold State.orphanAt
  simp only [afterCleared_tag, release_live]

theorem drainLaws_reset : DrainLaws State.reset :=
  (drainLaws_iff _).2 ⟨trivial, opsMatchParts_reset, trivial, oldGenerationsDrain_reset⟩

/-- Nothing stands in the part at power-on (R66). -/
theorem not_has_reset (j : Item) : ¬ State.reset.has j := by
  cases j with
  | request m => exact fun h => h (by simp [State.reset, State.record])
  | entry id => exact fun ⟨_, he, _⟩ => nomatch he
  | orphan k =>
    intro h
    obtain ⟨o, l, hl, -⟩ := (orphanOn_iff _ k).1 h
    have hfree : (State.reset.tag k).state = .free := by simp [State.reset, State.tag, Port.powerOn]
    rw [hfree] at hl
    exact nomatch hl

theorem drain_powerOn {s t : State} (h : execPowerOnReset s = .next t) : DrainLaws t ∧ KeepsDrain s t := by
  cases h
  refine ⟨drainLaws_of_same drainLaws_reset rfl rfl rfl rfl rfl, fun job j _ hj => ?_,
    fun job m j u _ _ hb => ?_⟩
  · exact (not_has_reset j (by cases j <;> exact hj)).elim
  · exact (not_has_reset j (by cases j <;> exact bears_has hb)).elim

/-- Every event keeps the laws of the drain, and no work leaves the drain early. -/
theorem Event.drain {s t : State} (h : Event s t) (hw : WorkLaws s) (hst : StreamsCurrent s) (hs : DrainLaws s) :
    DrainLaws t ∧ KeepsDrain s t := by
  have flows : ∀ {u}, Flows s u → DrainLaws u ∧ KeepsDrain s u := fun h => ⟨h.laws, h.keeps⟩
  cases h with
  | none => exact flows ((Evolves.refl s).flows hs)
  | accept m o =>
    obtain ⟨h1, h2, -, -⟩ := drain_acceptOffer hs hst m o
    exact ⟨h1, h2⟩
  | searchBegins | searchDiscarded | searchRepeats | clearFails | clearStarts | popFault =>
    exact drain_of_same hs rfl rfl rfl rfl rfl
  | channelRelease => exact drain_of_same hs rfl rfl rfl rfl rfl
  | searchDelivers v he ha => exact flows (flows_deliver hs hst hw.lookups (live_of_served he ha))
  | grant k choice hf => exact flows ((evolves_grant hf choice).flows hs)
  | answer k status data check => exact flows ((evolves_answerTag hw k status data check).flows hs)
  | expire k l hl => exact flows ((evolves_expireTag hw hl).flows hs)
  | cleared => exact flows ((evolves_cleared s).flows hs)
  | channelReset m => exact flows (flows_assertChannelReset hs hw m)
  | commit c w hc => exact drain_commitEvent hs hw.queue hc
  | bind m c hb => exact drain_bindEvent hs hw.queue m c (idle_of_not_draining hb)

end Sys2Proof.Machine
end

section
/-! SUPPORT. No PENDING operation and no head of the queue waits on the quarantine, over every event (R74, R101). -/

namespace Sys2Proof.Machine

/-! ## The law, record by record and at the head -/

/-- No PENDING operation of record m waits for a quarantined word (R74). -/
def State.readyRecord (s : State) (m : Master) : Prop := ∀ word, s.awaits m word → s.quarantinedBy word = none

/-- The oldest QUEUED entry does not wait for a quarantined word (R101). -/
def State.readyHead (s : State) : Prop := ∀ e ∈ s.oldestQueued, s.quarantinedBy e.word = none

theorem nothingWaits_iff (s : State) :
    NothingWaitsOnQuarantine s ↔ (∀ m, s.readyRecord m) ∧ s.readyHead := by
  refine and_congr_left fun _ => ⟨fun h m word ⟨r, hr, o, ho, hp, hw⟩ => hw ▸ h m r hr o ho hp,
    fun h m r hr o ho hp => ?_⟩
  exact h m o.word ⟨r, hr, o, ho, hp, rfl⟩

/-- From s to t no tag becomes QUARANTINED. -/
def Eases (s t : State) : Prop := ∀ k w, (t.tag k).state = .quarantined w → (s.tag k).state = .quarantined w

theorem Eases.trans {s t u : State} (h : Eases s t) (k : Eases t u) : Eases s u := fun x w hu => h x w (k x w hu)

theorem Eases.quarantinedBy {s t : State} (h : Eases s t) {w : WordAddr} (hs : s.quarantinedBy w = none) :
    t.quarantinedBy w = none := by
  rw [quarantinedBy_eq_none] at hs ⊢
  exact fun k hk => hs k (h k w hk)

theorem eases_of_tags {s t : State} (h : t.port.tags = s.port.tags) : Eases s t := fun k w hk => by
  rwa [tag_congr h] at hk

theorem KeepsPort.eases {s t : State} (h : KeepsPort s t) : Eases s t := eases_of_tags (congrArg Port.tags h.port)

/-- Tag k alone changes, and is not QUARANTINED. -/
theorem eases_of_tag {s t : State} {k : TagNo} (hk : ∀ w, (t.tag k).state ≠ .quarantined w)
    (ho : ∀ k', k' ≠ k → t.tag k' = s.tag k') : Eases s t := by
  intro k' w h
  by_cases e : k' = k
  · exact (hk w (e ▸ h)).elim
  · rwa [ho k' e] at h

theorem eases_freeTag (s : State) (k : TagNo) : Eases s (s.freeTag k) :=
  eases_of_tag (k := k) (fun w => by rw [freeTag_tag, if_pos rfl]; exact nofun)
    fun k' e => by rw [freeTag_tag, if_neg (Ne.symm e)]

theorem eases_startTag (s : State) (k : TagNo) (word : WordAddr) (work : Work) (owner : Owner) :
    Eases s (s.startTag k word work owner) :=
  eases_of_tag (k := k) (fun w => by rw [startTag_tag, if_pos rfl]; exact nofun)
    fun k' e => by rw [startTag_tag, if_neg (Ne.symm e)]

theorem WorkFrom.readyRecord {s t : State} (h : WorkFrom s t) (he : Eases s t) {m : Master} (hs : s.readyRecord m) :
    t.readyRecord m := fun word ha => he.quarantinedBy (hs word (h.awaits ha))

theorem readyHead_of_eases {s t : State} (he : Eases s t)
    (hh : ∀ e ∈ t.oldestQueued, ∃ e' ∈ s.oldestQueued, e'.word = e.word) (hs : s.readyHead) : t.readyHead := by
  intro e ht
  obtain ⟨e', hs', hw⟩ := hh e ht
  exact hw ▸ he.quarantinedBy (hs e' hs')

theorem readyHead_of_pwq {s t : State} (he : Eases s t) (hp : t.pwq = s.pwq) (hs : s.readyHead) : t.readyHead :=
  readyHead_of_eases he (fun e ht => ⟨e, oldestQueued_congr hp ▸ ht, rfl⟩) hs

/-- Work goes on, no tag becomes QUARANTINED, and the head is free. -/
theorem WorkFrom.nothingWaits {s t : State} (h : WorkFrom s t) (he : Eases s t) (hh : t.readyHead)
    (hs : NothingWaitsOnQuarantine s) : NothingWaitsOnQuarantine t := by
  rw [nothingWaits_iff] at hs ⊢
  exact ⟨fun m => h.readyRecord he (hs.1 m), hh⟩

theorem WorkFrom.nothingWaits_of_pwq {s t : State} (h : WorkFrom s t) (he : Eases s t) (hp : t.pwq = s.pwq)
    (hs : NothingWaitsOnQuarantine s) : NothingWaitsOnQuarantine t :=
  h.nothingWaits he (readyHead_of_pwq he hp ((nothingWaits_iff s).1 hs).2) hs

/-- The law reads records, queue and tags alone. -/
theorem nothingWaits_congr {s t : State} (hr : t.records = s.records) (hp : t.pwq = s.pwq)
    (ht : t.port.tags = s.port.tags) (hs : NothingWaitsOnQuarantine s) : NothingWaitsOnQuarantine t := by
  have hrec : t.record = s.record := by
    funext m
    simp [State.record, hr]
  have he := eases_of_tags ht
  rw [nothingWaits_iff] at hs ⊢
  refine ⟨fun m word ⟨r, hm, ho⟩ => he.quarantinedBy (hs.1 m word ⟨r, hrec ▸ hm, ho⟩), readyHead_of_pwq he hp hs.2⟩

/-! ## What judging and settling establish -/

theorem finishRequest_pwq (s : State) (m : Master) : (s.finishRequest m).pwq = s.pwq := by
  unfold State.finishRequest
  split
  · rfl
  · split <;> rfl

theorem judgeReadiness_pwq (s : State) (m : Master) : (s.judgeReadiness m).pwq = s.pwq := by
  unfold State.judgeReadiness
  split
  · rfl
  · rw [finishRequest_pwq, handInAll_eq]
    rfl

/-- A record judged waits for no quarantined word (R74). -/
theorem readyRecord_judgeReadiness (s : State) (m : Master) : (s.judgeReadiness m).readyRecord m := by
  intro word ha
  refine (keepsPort_judgeReadiness s m).eases.quarantinedBy ?_
  unfold State.judgeReadiness at ha
  split at ha
  · next hr =>
    obtain ⟨r, hm, -⟩ := ha
    exact nomatch hr.symm.trans hm
  · next r hr =>
    obtain ⟨r', hm, o, ho, hp, rfl⟩ := (evolves_finishRequest _ m).awaits ha
    rw [setRecord_record, if_pos rfl] at hm
    cases hm
    obtain ⟨o', ho', rfl⟩ := List.mem_map.1 ho
    by_contra hne
    obtain ⟨k, hk⟩ := Option.ne_none_iff_exists'.1 hne
    rcases timeoutOp_cases s o' with h | ⟨-, t, -, h⟩
    · rw [h] at hp hk
      have hf := (failsAtReadiness_of_pending hp).trans hk
      rw [timeoutOp_of_some hf] at h
      rw [← h] at hp
      exact nomatch hp
    · rw [h] at hp
      exact nomatch hp

theorem readyRecord_judgeAll (ms : List Master) (s : State) (m : Master) (hm : m ∈ ms) :
    (ms.foldl State.judgeReadiness s).readyRecord m := by
  induction ms generalizing s with
  | nil => exact nomatch hm
  | cons a ms ih =>
    rw [List.foldl_cons]
    rcases List.mem_cons.1 hm with rfl | hm
    · exact (evolves_judgeAll ms _).readyRecord (keepsPort_judgeAll ms _).eases (readyRecord_judgeReadiness s m)
    · exact ih _ hm

theorem readyHead_settleHeadUpTo : ∀ (n : Nat) (s : State), s.pwq.length ≤ n → (settleHeadUpTo n s).readyHead
  | 0, s, h => by
    have hnil : s.pwq = [] := List.eq_nil_of_length_eq_zero (Nat.le_zero.1 h)
    intro e he
    have he : e ∈ s.oldestQueued := he
    unfold State.oldestQueued at he
    rw [hnil] at he
    exact nomatch he
  | n + 1, s, h => by
    unfold settleHeadUpTo
    split
    · next ho =>
      intro e he
      rw [ho] at he
      exact nomatch he
    · next e ho =>
      split
      · next hq =>
        intro e' he'
        rw [ho] at he'
        cases he'
        exact hq
      · next t _ =>
        refine readyHead_settleHeadUpTo n _ ?_
        have hlt : (s.failEntry e .timeout t).pwq.length < s.pwq.length := by
          show (s.pwq.filter _).length < _
          exact List.length_filter_lt_length_iff_exists.2 ⟨e, (oldestQueued_mem ho).1, by simp⟩
        omega

/-- The head of a settled queue is free (R101). -/
theorem readyHead_settleHead (s : State) : s.settleHead.readyHead := readyHead_settleHeadUpTo _ s le_rfl

/-! ## Translations -/

theorem nothingWaits_completeTranslation {s : State} {m : Master} {r : Request}
    (h : r.part1.status ≠ .waiting ∧ ∀ p ∈ r.part2, p.status ≠ .waiting) (hs : NothingWaitsOnQuarantine s) :
    NothingWaitsOnQuarantine (s.completeTranslation m r) := by
  obtain ⟨hrec, hhead⟩ := (nothingWaits_iff s).1 hs
  rcases completeTranslation_cases (s := s) (m := m) h with he | ⟨-, he⟩ | he <;> rw [he]
  · rw [holdRequest_eq_judge, nothingWaits_iff]
    have hport := (keepsPort_judgeReadiness (s.setRecord m (some (s.heldRequest r))) m).eases
    refine ⟨fun m' => ?_, readyHead_of_pwq (s := s) hport (judgeReadiness_pwq _ m) hhead⟩
    by_cases e : m = m'
    · subst e
      exact readyRecord_judgeReadiness _ m
    · refine (evolves_judgeReadiness _ m).readyRecord hport fun word ⟨r', hr', ho⟩ => ?_
      rw [setRecord_record, if_neg e] at hr'
      exact hrec m' word ⟨r', hr', ho⟩
  · rw [postRequest_eq_settleHead, nothingWaits_iff]
    refine ⟨fun m' => (evolves_settleHead _).readyRecord (keepsPort_settleHead _).eases fun word ⟨r', hr', ho⟩ => ?_,
      readyHead_settleHead _⟩
    have hr' : r' ∈ (s.setRecord m none).record m' := hr'
    rw [setRecord_record] at hr'
    split at hr'
    · exact nomatch hr'
    · exact hrec m' word ⟨r', hr', ho⟩
  · exact (evolves_replyRequest s m _).nothingWaits_of_pwq (keepsPort_replyRequest s m _).eases rfl hs

/-- A record written with a request that has no operations. -/
theorem nothingWaits_of_noOps {s t : State} {m : Master} {r : Request} (hs : NothingWaitsOnQuarantine s)
    (hp : t.pwq = s.pwq) (ht : t.port.tags = s.port.tags)
    (hrec : ∀ m', t.record m' = if m = m' then some r else s.record m') (hops : r.ops = []) :
    NothingWaitsOnQuarantine t := by
  have he := eases_of_tags ht
  rw [nothingWaits_iff] at hs ⊢
  refine ⟨fun m' word ⟨r', hr', o, ho, hpend⟩ => ?_, readyHead_of_pwq he hp hs.2⟩
  rw [hrec] at hr'
  split at hr'
  · cases hr'
    rw [hops] at ho
    exact nomatch ho
  · exact he.quarantinedBy (hs.1 m' word ⟨r', hr', o, ho, hpend⟩)

theorem TranslationGoesOn.nothingWaits {s u : State} {m : Master} {r : Request} {found : Option WinCopy}
    (h : TranslationGoesOn s m r found u) (hs : NothingWaitsOnQuarantine s) (hops : r.ops = []) :
    NothingWaitsOnQuarantine u := by
  cases h with
  | resolved bs p1 p2 h1 h2 hc =>
    exact nothingWaits_completeTranslation ⟨h1, h2⟩
      (nothingWaits_of_noOps hs rfl rfl (fun m' => withParts_record_all s m m' r p1 p2 bs) (by exact hops))
  | lookedUp bs p1 h1 hg hc =>
    exact nothingWaits_of_noOps hs rfl rfl (fun m' => withParts_record_all s m m' r p1 (some (secondPart r)) bs)
      (by exact hops)

theorem nothingWaits_acceptOffer {s : State} (hs : NothingWaitsOnQuarantine s) (m : Master) (o : Offer) :
    NothingWaitsOnQuarantine (s.acceptOffer m o) := by
  unfold State.acceptOffer
  dsimp only
  split
  · exact nothingWaits_congr (s := s) rfl rfl rfl hs
  · next c _ =>
    have hrec := fun m' => setRecord_record (s.takeOffer m o) m m' (some (newRequest o (s.channel m).serial c))
    have hnew := nothingWaits_of_noOps (t := (s.takeOffer m o).setRecord m (some (newRequest o (s.channel m).serial c)))
      hs rfl rfl hrec rfl
    split
    · exact (resolveFirst_goesOn ((hrec m).trans (if_pos rfl)) rfl _).nothingWaits hnew rfl
    · exact nothingWaits_congr (s := (s.takeOffer m o).setRecord m (some (newRequest o (s.channel m).serial c)))
        rfl rfl rfl hnew

theorem nothingWaits_deliver {s : State} {l : Lookup} (hs : NothingWaitsOnQuarantine s) (hw : LookupsMatchRecords s)
    (hl : s.engine.live = some l) : NothingWaitsOnQuarantine (State.deliver { s with engine := .idle } l) := by
  obtain ⟨-, r, hr, hb⟩ := lookupsBut_of_delivery hl hw
  have hgo := deliver_goesOn (s := { s with engine := .idle }) hr hb
  obtain ⟨streams, he⟩ := loadStream_fields { s with engine := .idle } l
    (State.findWindow { s with engine := .idle } l.ctx l.granule.toNat)
  rw [he] at hgo
  exact hgo.nothingWaits (nothingWaits_congr (s := s) rfl rfl rfl hs) hb.2.1

/-! ## Grants, answers and expiries -/

theorem nothingWaits_grant {s : State} {k : TagNo} (hf : (s.tag k).state = .free) (choice : OpChoice)
    (hs : NothingWaitsOnQuarantine s) : NothingWaitsOnQuarantine (s.grant k choice) := by
  have hev := (evolves_grant hf choice).toWorkFrom
  rcases grant_cases s k choice with h | ⟨e, -, h⟩ | ⟨m, r, i, o, -, -, -, h⟩ <;> rw [h] at hev ⊢
  · exact hs
  · rw [grantEntry_eq_settleHead] at hev ⊢
    have he : Eases s (s.entryGranted k e) := eases_startTag s k e.word e.work .pwqEntry
    exact hev.nothingWaits (he.trans (keepsPort_settleHead _).eases) (readyHead_settleHead _) hs
  · have he : Eases s (s.grantOp k m r i o) := eases_startTag s k o.word o.work (.request m o.label)
    exact hev.nothingWaits_of_pwq he rfl hs

/-- The oldest QUEUED entry is the same when an ISSUED entry leaves. -/
theorem oldestQueued_filter {s t : State} {e : Entry} (hq : PwqInOrder s) (he : e ∈ s.pwq) (hst : e.state ≠ .queued)
    (hp : t.pwq = s.pwq.filter (·.id ≠ e.id)) : t.oldestQueued = s.oldestQueued := by
  unfold State.oldestQueued
  rw [hp, List.find?_filter]
  refine List.find?_congr fun x hx => ?_
  by_cases hid : x.id = e.id
  · have hxe := QueueInOrder.eq_of_id hq hx he hid
    subst hxe
    simp [hst]
  · simp [hid, beq_eq_decide]

theorem eases_answerOp (s : State) (k : TagNo) (m : Master) (r : Request) (o : WordOp) (owner : Owner)
    (effect : AnswerEffect) (data : Bytes8) :
    Eases s (s.answerOp k m r o owner effect data) ∧ (s.answerOp k m r o owner effect data).pwq = s.pwq := by
  have hfree := eases_freeTag s k
  cases effect with
  | completes => exact ⟨hfree.trans (keepsPort_finishRequest _ m).eases, finishRequest_pwq _ m⟩
  | gathers => exact ⟨hfree.trans (keepsPort_finishRequest _ m).eases, finishRequest_pwq _ m⟩
  | merges => exact ⟨eases_startTag s k o.word (.rmw .writePhase) owner, rfl⟩
  | fails c => exact ⟨hfree.trans (keepsPort_finishRequest _ m).eases, finishRequest_pwq _ m⟩

theorem nothingWaits_answerEntry {s : State} (hw : WorkLaws s) {k : TagNo} {e : Entry} (he : e ∈ s.pwq)
    (hst : e.state = .issued k) (ho : ∀ x, ¬ s.orphanAt k x) (effect : AnswerEffect) (data : Bytes8)
    (hs : NothingWaitsOnQuarantine s) : NothingWaitsOnQuarantine (s.answerEntry k e effect data) := by
  have hev := (evolves_answerEntry (e := e) ho effect data).toWorkFrom
  have hhead := ((nothingWaits_iff s).1 hs).2
  have hleave : ∀ {t : State}, t.pwq = s.pwq.filter (·.id ≠ e.id) → Eases s t → t.readyHead := fun hp hea =>
    readyHead_of_eases hea
      (fun x hx => ⟨x, oldestQueued_filter hw.queue he (by rw [hst]; exact nofun) hp ▸ hx, rfl⟩) hhead
  have hfree := eases_freeTag s k
  cases effect with
  | completes => exact hev.nothingWaits hfree (hleave rfl hfree) hs
  | gathers => exact hev.nothingWaits hfree (hleave rfl hfree) hs
  | fails c => exact hev.nothingWaits hfree (hleave rfl hfree) hs
  | merges =>
    have hea : Eases s (s.entryMerged k e data) := eases_startTag s k e.word (.rmw .writePhase) .pwqEntry
    refine hev.nothingWaits hea (readyHead_of_eases hea (fun x hx => ?_) hhead) hs
    have hx : (s.pwq.map fun x => if x.state = .issued k then x.merged data else x).find? (·.state == .queued) =
      some x := hx
    rw [List.find?_map] at hx
    obtain ⟨y, hy, rfl⟩ := Option.map_eq_some_iff.1 hx
    refine ⟨y, ?_, by split <;> rfl⟩
    refine (Option.mem_def.trans (Eq.congr_left ?_)).2 hy
    refine List.find?_congr fun z _ => ?_
    dsimp only [Function.comp]
    split <;> rfl

theorem nothingWaits_answerTag {s : State} (hw : WorkLaws s) (k : TagNo) (status : AnswerStatus) (data : Bytes8)
    (check : Byte) (hs : NothingWaitsOnQuarantine s) :
    NothingWaitsOnQuarantine (s.answerTag k status data check) := by
  have hev := (evolves_answerTag hw k status data check).toWorkFrom
  rcases answerTag_cases hw k status data check with h | ⟨-, h⟩ | ⟨l, o, -, -, h⟩ | ⟨l, e, effect, hl, ho, he, h⟩ |
    ⟨l, m, label, r, o, effect, -, -, -, -, h⟩ <;> rw [h] at hev ⊢
  · exact nothingWaits_congr (s := s) rfl rfl rfl hs
  · exact hev.nothingWaits_of_pwq (eases_freeTag s k) rfl hs
  · exact hev.nothingWaits_of_pwq (eases_freeTag s k) rfl hs
  · obtain ⟨hmem, hst⟩ := entryOnTag_mem he
    exact nothingWaits_answerEntry hw hmem hst (not_orphanAt_of_live hl (by rw [ho]; exact nofun)) effect data hs
  · obtain ⟨hea, hp⟩ := eases_answerOp s k m r o l.owner effect data
    exact hev.nothingWaits_of_pwq hea hp hs

/-- After an expiry every record and the head are judged (R124). -/
theorem nothingWaits_expireTag (s : State) (k : TagNo) (l : LiveWork) : NothingWaitsOnQuarantine (s.expireTag k l) := by
  refine (nothingWaits_iff _).2 ⟨fun m => ?_, readyHead_settleHead _⟩
  exact (evolves_settleHead _).readyRecord (keepsPort_settleHead _).eases
    (readyRecord_judgeAll masters _ m (mem_masters m))

/-! ## Every event -/

theorem nothingWaits_assertChannelReset {s : State} (hw : WorkLaws s) (hs : NothingWaitsOnQuarantine s) (m : Master) :
    NothingWaitsOnQuarantine (s.assertChannelReset m) := by
  obtain ⟨hp, -, -, -⟩ := assertChannelReset_queue s m
  have he : Eases s (s.assertChannelReset m) := fun k w hk => by
    rcases assertChannelReset_tag_cases (m := m) hw.tags k with ⟨ht, -⟩ | ⟨l, label, r, o, -, -, -, -, ht⟩
    · rwa [ht] at hk
    · rw [ht] at hk
      exact nomatch hk
  rw [nothingWaits_iff] at hs ⊢
  refine ⟨fun m' word ⟨r, hr, ho⟩ => ?_, readyHead_of_pwq he hp hs.2⟩
  rw [assertChannelReset_record] at hr
  split at hr
  · exact nomatch hr
  · exact he.quarantinedBy (hs.1 m' word ⟨r, hr, ho⟩)

theorem eases_cleared (s : State) : Eases s s.afterCleared := fun k w hk => by
  rw [afterCleared_tag] at hk
  unfold Tag.release at hk
  split at hk
  · exact hk
  · exact hk
  · exact nomatch hk

theorem nothingWaits_powerOn {s t : State} (h : execPowerOnReset s = .next t) : NothingWaitsOnQuarantine t := by
  cases h
  exact nothingWaits_congr (s := State.reset) rfl rfl rfl nothingWaitsOnQuarantine_reset

theorem Event.nothingWaits {s t : State} (h : Event s t) (hw : WorkLaws s) (hs : NothingWaitsOnQuarantine s) :
    NothingWaitsOnQuarantine t := by
  cases h with
  | none => exact hs
  | accept m o => exact nothingWaits_acceptOffer hs m o
  | searchBegins | searchDiscarded | searchRepeats | clearFails | clearStarts | popFault | channelRelease | commit |
    bind =>
    exact nothingWaits_congr (s := s) rfl rfl rfl hs
  | searchDelivers v he ha => exact nothingWaits_deliver hs hw.lookups (live_of_served he ha)
  | grant k choice hf => exact nothingWaits_grant hf choice hs
  | answer k status data check => exact nothingWaits_answerTag hw k status data check hs
  | expire k l => exact nothingWaits_expireTag s k l
  | cleared => exact (evolves_cleared s).nothingWaits_of_pwq (eases_cleared s) rfl hs
  | channelReset m => exact nothingWaits_assertChannelReset hw hs m

theorem Quiet.nothingWaits {s t : State} (h : Quiet s t) (hs : NothingWaitsOnQuarantine s) :
    NothingWaitsOnQuarantine t :=
  nothingWaits_congr h.records h.pwq h.tags hs

end Sys2Proof.Machine
end

section
/-! SUPPORT. The laws of the Fault Log, of repeated searches, of channels in reset and of PORST#, over every event. -/

namespace Sys2Proof.Machine

/-! ## The Fault Log (R162) -/

/-- At most 16 records, in the order of their numbers counted from the oldest (R162). -/
def FaultLog.ordered (l : FaultLog) : Prop :=
  l.records.length ≤ Config.logCapacity ∧
  ∀ oldest ∈ l.records.head?, l.records.Pairwise fun a b => seqDistance a.seq oldest.seq < seqDistance b.seq oldest.seq

/-- Distances from a record on are distances from an earlier one, less its own. -/
theorem seqDistance_sub {r r' x : BitVec 16} (h : seqDistance r' r ≤ seqDistance x r) :
    seqDistance x r' = seqDistance x r - seqDistance r' r := by
  unfold seqDistance at *
  bv_omega

theorem ordered_handIn {l : FaultLog} (h : l.ordered) (b : FaultBody) : (l.handIn b).ordered := by
  cases ha : l.accepts with
  | false =>
    unfold FaultLog.ordered
    rw [logHandIn_records_of_not ha]
    exact h
  | true =>
    obtain ⟨-, hord⟩ := h
    have hlen := accepts_length ha
    unfold FaultLog.ordered
    rw [logHandIn_records_of_accepts ha]
    refine ⟨by simpa using hlen, fun oldest ho => ?_⟩
    rw [List.pairwise_append]
    cases hr : l.records with
    | nil => simp
    | cons r rest =>
      obtain rfl : r = oldest := by simpa [hr] using ho
      rw [hr] at hord
      have hall := hord r rfl
      refine ⟨hall, by simp, fun a hmem x hx => ?_⟩
      obtain rfl := List.mem_singleton.1 hx
      obtain ⟨init, newest, hinit⟩ : ∃ init newest, r :: rest = init ++ [newest] :=
        ⟨_, _, (List.dropLast_append_getLast (List.cons_ne_nil r rest)).symm⟩
      have hnew : seqDistance newest.seq r.seq < seqDistance l.next r.seq := by
        unfold FaultLog.accepts at ha
        rw [hr, Bool.and_eq_true] at ha
        obtain ⟨-, ha⟩ := ha
        rw [hinit, List.getLast?_concat, ← hinit] at ha
        exact of_decide_eq_true ha
      rw [hinit] at hmem hall
      rcases List.mem_append.1 hmem with h | h
      · exact ((List.pairwise_append.1 hall).2.2 a h newest (by simp)).trans hnew
      · rw [List.mem_singleton.1 h]
        exact hnew

theorem FaultLog.growsTo.ordered {l l' : FaultLog} (h : l.growsTo l') (hl : l.ordered) : l'.ordered := by
  obtain ⟨bs, rfl⟩ := h
  induction bs generalizing l with
  | nil => exact hl
  | cons b bs ih => exact ih (ordered_handIn hl b)

/-- The records left by POP_FAULT stand in order from the new oldest (R162, R164). -/
theorem ordered_pop {l : FaultLog} {r : FaultRecord} {rest : List FaultRecord} (h : l.ordered)
    (hr : l.records = r :: rest) : FaultLog.ordered { l with records := rest } := by
  obtain ⟨hlen, hord⟩ := h
  rw [hr] at hlen hord
  obtain ⟨hfirst, hrest⟩ := List.pairwise_cons.1 (hord r rfl)
  refine ⟨Nat.le_of_succ_le hlen, fun oldest ho => ?_⟩
  have ho : rest.head? = some oldest := ho
  have hmin : ∀ x ∈ rest, seqDistance oldest.seq r.seq ≤ seqDistance x.seq r.seq := by
    intro x hx
    cases hc : rest with
    | nil => rw [hc] at hx; exact nomatch hx
    | cons y ys =>
      rw [hc] at ho hx hrest
      cases ho
      rcases List.mem_cons.1 hx with rfl | hx
      · exact le_rfl
      · exact ((List.pairwise_cons.1 hrest).1 x hx).le
  refine hrest.imp_of_mem fun {a b} ha hb hab => ?_
  rw [seqDistance_sub (hmin a ha), seqDistance_sub (hmin b hb)]
  have := hmin a ha
  omega

/-- Every event keeps the law of the log. -/
theorem Event.logOrdered {s t : State} (h : Event s t) (hw : WorkLaws s) (hst : StreamsCurrent s) (hs : DrainLaws s)
    (hl : LogOrdered s) : LogOrdered t := by
  have grows : ∀ {u : State}, s.log.growsTo u.log → LogOrdered u := fun h => h.ordered hl
  cases h with
  | none | searchBegins | searchDiscarded | searchRepeats | clearFails | clearStarts | channelRelease | commit | bind |
    cleared => exact hl
  | accept m o =>
    obtain ⟨-, -, h, -⟩ := drain_acceptOffer hs hst m o
    exact grows h
  | searchDelivers v he ha => exact grows (flows_deliver hs hst hw.lookups (live_of_served he ha)).log
  | grant k choice hf => exact grows (evolves_grant hf choice).log
  | answer k status data check => exact grows (evolves_answerTag hw k status data check).log
  | expire k l hk => exact grows (evolves_expireTag hw hk).log
  | channelReset m => exact grows (flows_assertChannelReset hs hw m).log
  | popFault r rest hr => exact ordered_pop hl hr

/-! ## Repeated searches (R39) -/

theorem repeatsAreCurrent_congr {s t : State} (he : t.engine = s.engine) (hw : t.windows = s.windows)
    (h : RepeatsAreCurrent s) : RepeatsAreCurrent t := by
  unfold RepeatsAreCurrent State.version
  rw [he, hw]
  exact h

theorem repeatsAreCurrent_iff (s : State) :
    RepeatsAreCurrent s ↔ ∀ v, s.engine = .repeating v → v.captured = s.version v.lookup.ctx := by
  unfold RepeatsAreCurrent
  cases s.engine <;> simp

theorem KeepsTables.repeatsAreCurrent {s t : State} (k : KeepsTables s t) (h : RepeatsAreCurrent s) :
    RepeatsAreCurrent t := repeatsAreCurrent_congr k.engine k.windows h

/-- An accepted COMMIT is of no context in which a repeated search runs (R18, R39). -/
theorem repeatsAreCurrent_commitEvent {s : State} {c : Ctx} {w : WinIx} (hc : s.commitRefusal c w = none)
    (h : RepeatsAreCurrent s) : RepeatsAreCurrent (s.commitEvent c w) := by
  obtain ⟨-, -, hr, -⟩ := commitRefusal_eq_none.1 hc
  rw [repeatsAreCurrent_iff] at h ⊢
  intro v hv
  have hv : s.engine = .repeating v := hv
  have hne : c ≠ v.lookup.ctx := fun e => hr ⟨v, hv, e.symm⟩
  rw [h v hv]
  show s.windows.versions[v.lookup.ctx] = (s.windows.versions.set c (s.windows.versions[c] + 1))[v.lookup.ctx]
  simp [Fin.val_ne_of_ne hne]

theorem repeatsAreCurrent_abandon {s t : State} {m : Master} (he : t.engine = s.engine.abandon m)
    (hw : t.windows = s.windows) (h : RepeatsAreCurrent s) : RepeatsAreCurrent t := by
  rw [repeatsAreCurrent_iff] at h ⊢
  intro v hv
  rw [he] at hv
  unfold State.version
  rw [hw]
  cases hs : s.engine with
  | idle => rw [hs] at hv; exact nomatch hv
  | searching v' => rw [hs] at hv; exact nomatch hv
  | repeating v' =>
    rw [hs] at hv
    have hcap := h v' hs
    have hv : (if v'.lookup.master = m then { v' with abandoned := true } else v') = v := Engine.repeating.inj hv
    subst hv
    split <;> exact hcap

theorem Event.repeatsAreCurrent {s t : State} (h : Event s t) (hs : RepeatsAreCurrent s) : RepeatsAreCurrent t := by
  cases h with
  | none | cleared | clearFails | clearStarts | channelRelease | bind | popFault => exact hs
  | accept m o =>
    exact (keepsTables_acceptOffer s m o).repeatsAreCurrent (repeatsAreCurrent_congr (s := s) rfl rfl hs)
  | searchBegins | searchDiscarded => trivial
  | searchRepeats v he ha => rfl
  | searchDelivers v =>
    refine (deliver_tables _ _).repeatsAreCurrent ?_
    obtain ⟨streams, he⟩ := loadStream_fields { s with engine := .idle } v.lookup
      (State.findWindow { s with engine := .idle } v.lookup.ctx v.lookup.granule.toNat)
    rw [he]
    trivial
  | grant k choice => exact (keepsTables_grant s k choice).repeatsAreCurrent hs
  | answer k status data check => exact (keepsTables_answerTag s k status data check).repeatsAreCurrent hs
  | expire k l => exact (expireTag_keeps s k l).repeatsAreCurrent hs
  | channelReset m =>
    rw [assertChannelReset_eq]
    exact (keepsTables_abandonRequest _ m).repeatsAreCurrent (repeatsAreCurrent_abandon (s := s) rfl rfl hs)
  | commit c w hc => exact repeatsAreCurrent_commitEvent hc hs

/-! ## Channels in reset (R41, R64) -/

/-- The law of a channel in reset, but for its lookups, which that of the lookups gives. -/
def ChannelsQuiet (s : State) : Prop := ∀ m, (s.channel m).crst = true → s.record m = none ∧ s.stream m = none

theorem resetChannelsQuiet_iff {s : State} (h : LookupsMatchRecords s) : ResetChannelsQuiet s ↔ ChannelsQuiet s := by
  refine forall_congr' fun m => forall_congr' fun _ => ⟨fun ⟨hr, hst, _⟩ => ⟨hr, hst⟩, fun ⟨hr, hst⟩ =>
    ⟨hr, hst, fun l hl hm => ?_⟩⟩
  obtain ⟨-, hfits, -⟩ := h
  obtain ⟨r, hr', -⟩ := hfits l hl
  rw [hm, hr] at hr'
  exact nomatch hr'

/-- No channel comes into reset, no empty record or stream record is filled. -/
theorem channelsQuiet_of {s t : State} (hc : ∀ m, (t.channel m).crst = true → (s.channel m).crst = true)
    (hr : ∀ m, (t.channel m).crst = true → t.record m ≠ none → s.record m ≠ none)
    (hst : ∀ m, (t.channel m).crst = true → t.stream m ≠ none → s.stream m ≠ none) (h : ChannelsQuiet s) :
    ChannelsQuiet t := by
  intro m hm
  obtain ⟨h1, h2⟩ := h m (hc m hm)
  exact ⟨not_not.1 fun hn => hr m hm hn h1, not_not.1 fun hn => hst m hm hn h2⟩

theorem stream_congr {s t : State} (h : t.streams = s.streams) (m : Master) : t.stream m = s.stream m := by
  rw [State.stream, State.stream, h]

theorem channel_congr {s t : State} (h : t.channels = s.channels) (m : Master) : t.channel m = s.channel m := by
  rw [State.channel, State.channel, h]

theorem KeepsTables.channelsQuiet {s t : State} (k : KeepsTables s t)
    (hr : ∀ m, t.record m ≠ none → s.record m ≠ none) (h : ChannelsQuiet s) : ChannelsQuiet t :=
  channelsQuiet_of (fun m hm => channel_congr k.channels m ▸ hm) (fun m _ => hr m)
    (fun m _ hn => stream_congr k.streams m ▸ hn) h

/-- The stream record loaded at a delivery is that of a master with a lookup (R32). -/
theorem loadStream_stream (s : State) (l : Lookup) (found : Option WinCopy) {m : Master} (hm : l.master ≠ m) :
    (s.loadStream l found).stream m = s.stream m := by
  unfold State.loadStream
  split
  · rfl
  · split
    · rw [setStream_stream, if_neg hm]
    · rfl

theorem channelsQuiet_deliver {s : State} (hs : DrainLaws s) (hw : WorkLaws s) (hst : StreamsCurrent s) {l : Lookup}
    (hl : s.engine.live = some l) (h : ChannelsQuiet s) :
    ChannelsQuiet (State.deliver { s with engine := .idle } l) := by
  have hk := deliver_tables { s with engine := .idle } l
  have hflow := flows_deliver hs hst hw.lookups hl
  obtain ⟨streams, he⟩ := loadStream_fields { s with engine := .idle } l
    (State.findWindow { s with engine := .idle } l.ctx l.granule.toNat)
  have hch : ∀ m, (State.deliver { s with engine := .idle } l).channel m = s.channel m := fun m =>
    channel_congr (hk.channels.trans (by rw [he])) m
  refine channelsQuiet_of (fun m hm => hch m ▸ hm) (fun m _ => hflow.requests m) (fun m hm hn => ?_) h
  have hne : l.master ≠ m := by
    rintro rfl
    obtain ⟨-, r, hr, -⟩ := lookupsBut_of_delivery hl hw.lookups
    have hnone := (h l.master (hch l.master ▸ hm)).1
    exact nomatch hnone.symm.trans hr
  rw [stream_congr hk.streams, loadStream_stream _ _ _ hne] at hn
  exact hn

theorem channelsQuiet_assertChannelReset {s : State} (m : Master) (h : ChannelsQuiet s) :
    ChannelsQuiet (s.assertChannelReset m) := by
  have hk := keepsTables_abandonRequest { s with
      channels := s.channels.set m { s.channel m with crst := true }
      streams := s.streams.set m none
      waitList := s.waitList.filter (·.master ≠ m)
      engine := s.engine.abandon m } m
  have hch : ∀ m', (s.assertChannelReset m).channel m' =
      if m = m' then { s.channel m with crst := true } else s.channel m' := fun m' =>
    (channel_congr hk.channels m').trans (setChannel_channel s m m' _)
  have hstr : ∀ m', (s.assertChannelReset m).stream m' = if m = m' then none else s.stream m' := fun m' =>
    (stream_congr hk.streams m').trans (setStream_stream s m m' none)
  intro m' hm'
  rw [assertChannelReset_record, hstr]
  rw [hch] at hm'
  split
  · exact ⟨rfl, rfl⟩
  · next e =>
    rw [if_neg e] at hm'
    exact h m' hm'

theorem Event.channelsQuiet {s t : State} (h : Event s t) (hs : DrainLaws s) (hw : WorkLaws s) (hst : StreamsCurrent s)
    (hq : ChannelsQuiet s) : ChannelsQuiet t := by
  cases h with
  | none | searchBegins | searchDiscarded | searchRepeats | cleared | clearFails | clearStarts | popFault => exact hq
  | accept m o ha =>
    obtain ⟨-, hcrst, -, -⟩ := ha
    obtain ⟨-, -, -, hreq⟩ := drain_acceptOffer hs hst m o
    have hch : ∀ m', ((s.acceptOffer m o).channel m').crst = (s.channel m').crst := fun m' => by
      rw [channel_congr (keepsTables_acceptOffer s m o).channels]
      exact (quiet_takeOffer s m o).crst m'
    refine channelsQuiet_of (fun m' hm' => hch m' ▸ hm') (fun m' hm' hn => ?_) (fun m' _ hn => ?_) hq
    · rcases hreq m' hn with rfl | h
      · rw [hch, hcrst] at hm'
        exact nomatch hm'
      · exact h
    · rwa [stream_congr (keepsTables_acceptOffer s m o).streams] at hn
  | searchDelivers v he ha => exact channelsQuiet_deliver hs hw hst (live_of_served he ha) hq
  | grant k choice hf =>
    exact (keepsTables_grant s k choice).channelsQuiet (fun m => (evolves_grant hf choice).has (j := .request m)) hq
  | answer k status data check =>
    exact (keepsTables_answerTag s k status data check).channelsQuiet
      (fun m => (evolves_answerTag hw k status data check).has (j := .request m)) hq
  | expire k l hl =>
    exact (expireTag_keeps s k l).channelsQuiet (fun m => (evolves_expireTag hw hl).has (j := .request m)) hq
  | channelReset m => exact channelsQuiet_assertChannelReset m hq
  | channelRelease m =>
    refine channelsQuiet_of (s := s) (fun m' hm' => ?_) (fun _ _ hn => hn) (fun _ _ hn => hn) hq
    rw [setChannel_channel] at hm'
    split at hm'
    · exact nomatch hm'
    · exact hm'
  | commit c w =>
    refine channelsQuiet_of (s := s) (fun _ hm => hm) (fun _ _ hn => hn) (fun m _ hn hnone => hn ?_) hq
    have hstr : (s.commitEvent c w).stream m = dropNamed c w (s.stream m) := by
      simp [State.commitEvent, State.beginDrain, State.stream]
    rw [hstr, hnone]
    rfl
  | bind m c =>
    refine channelsQuiet_of (s := s) (fun _ hm => hm) (fun _ _ hn => hn) (fun m' _ hn hnone => hn ?_) hq
    refine (setStream_stream (s.setBinding m c) m m' Option.none).trans ?_
    split
    · rfl
    · exact hnone

theorem Quiet.channelsQuiet {s t : State} (h : Quiet s t) (hs : ChannelsQuiet s) : ChannelsQuiet t :=
  channelsQuiet_of (fun m hm => h.crst m ▸ hm) (fun m _ => h.evolves.has (j := .request m))
    (fun m _ hn => stream_congr h.streams m ▸ hn) hs

end Sys2Proof.Machine
end

section
/-! SUPPORT. The part under PORST#, and O60: all the laws of `Safe` together. -/

namespace Sys2Proof.Machine

/-! ## Under PORST# (R66, R171, R179) -/

/-- Every block stands at its power-on value; only the input lines may differ (R66). -/
def State.atPowerOn (s : State) : Prop :=
  s.windows = State.reset.windows ∧ s.staging = State.reset.staging ∧ s.bindings = State.reset.bindings ∧
  s.streams = State.reset.streams ∧ s.waitList = [] ∧ s.engine = .idle ∧ s.records = State.reset.records ∧
  s.pwq = [] ∧ s.port = State.reset.port ∧ s.drain = State.reset.drain ∧ s.log = State.reset.log ∧
  s.link.buffer = none ∧
  (∀ m : Master, (s.channel m).taken = false ∧ (s.channel m).serial = 0) ∧
  ∀ shown : Option Response, s.link.period ≠ .running shown

/-- From s to t nothing changes but input lines, messages and a period that the link does not judge. -/
structure Rests (s t : State) : Prop where
  windows : t.windows = s.windows
  staging : t.staging = s.staging
  bindings : t.bindings = s.bindings
  streams : t.streams = s.streams
  waitList : t.waitList = s.waitList
  engine : t.engine = s.engine
  records : t.records = s.records
  pwq : t.pwq = s.pwq
  port : t.port = s.port
  drain : t.drain = s.drain
  log : t.log = s.log
  buffer : t.link.buffer = s.link.buffer
  channels : ∀ m, (t.channel m).taken = (s.channel m).taken ∧ (t.channel m).serial = (s.channel m).serial
  period : ∀ shown, t.link.period = .running shown → s.link.period = .running shown

theorem Rests.atPowerOn {s t : State} (h : Rests s t) (hs : s.atPowerOn) : t.atPowerOn := by
  obtain ⟨h1, h2, h3, h4, h5, h6, h7, h8, h9, h10, h11, h12, hc, hp⟩ := hs
  exact ⟨h.windows.trans h1, h.staging.trans h2, h.bindings.trans h3, h.streams.trans h4, h.waitList.trans h5,
    h.engine.trans h6, h.records.trans h7, h.pwq.trans h8, h.port.trans h9, h.drain.trans h10, h.log.trans h11,
    h.buffer.trans h12, fun m => ⟨(h.channels m).1.trans (hc m).1, (h.channels m).2.trans (hc m).2⟩,
    fun shown hr => hp shown (h.period shown hr)⟩

theorem rests_beginEvent (s : State) : Rests s s.beginEvent :=
  ⟨rfl, rfl, rfl, rfl, rfl, rfl, rfl, rfl, rfl, rfl, rfl, rfl, fun _ => ⟨rfl, rfl⟩, fun _ h => h⟩

/-- A frame that the link does not judge ends its period alone (R171). -/
theorem rests_frameEvent {s : State} (hp : s.porst = true) (n k : Nat) (f : State → State) :
    Rests s (s.frameEvent n k f) := by
  rw [frameEvent_of_not (by simp [State.takesPeriod, hp])]
  exact ⟨rfl, rfl, rfl, rfl, rfl, rfl, rfl, rfl, rfl, rfl, rfl, rfl, fun _ => ⟨rfl, rfl⟩, fun _ h => nomatch h⟩

/-- Channel m is written with its hold-off and serial counter as they were. -/
theorem rests_setChannel {s : State} {m : Master} {c : Channel} (ht : c.taken = (s.channel m).taken)
    (hn : c.serial = (s.channel m).serial) : Rests s (s.beginEvent.setChannel m c) := by
  refine ⟨rfl, rfl, rfl, rfl, rfl, rfl, rfl, rfl, rfl, rfl, rfl, rfl, fun m' => ?_, fun _ h => h⟩
  rw [setChannel_channel]
  split
  · next e => exact e ▸ ⟨ht, hn⟩
  · exact ⟨rfl, rfl⟩

/-- At power-on no source is ready (R118). -/
theorem grant_atPowerOn {s : State} (h : s.atPowerOn) (k : TagNo) (choice : OpChoice) : s.grant k choice = s := by
  obtain ⟨-, -, -, -, -, -, hr, hp, -⟩ := h
  rcases grant_cases s k choice with h | ⟨e, he, -⟩ | ⟨m, r, i, o, hm, -⟩
  · exact h
  · obtain ⟨ho, -⟩ := offeredEntry_eq_some he
    have hmem := (oldestQueued_mem ho).1
    rw [hp] at hmem
    exact nomatch hmem
  · rw [State.record, hr] at hm
    simp [State.reset] at hm

/-- At power-on CRSTm# finds nothing to abandon (R41, R62). -/
theorem rests_assertChannelReset {s : State} (h : s.atPowerOn) (m : Master) :
    Rests s (s.beginEvent.assertChannelReset m) := by
  obtain ⟨-, -, -, hst, hw, he, hr, -⟩ := h
  have hrec : s.record m = none := by rw [State.record, hr]; simp [State.reset]
  rw [assertChannelReset_eq, abandonRequest_of_none (by exact hrec)]
  refine ⟨rfl, rfl, rfl, ?_, ?_, ?_, rfl, rfl, rfl, rfl, rfl, rfl, fun m' => ?_, fun _ h => h⟩
  · show s.streams.set m none = s.streams
    rw [hst]
    simp [State.reset]
  · show s.waitList.filter _ = s.waitList
    rw [hw]
    rfl
  · show s.engine.abandon m = s.engine
    rw [he]
    rfl
  · have hc := setChannel_channel s m m' { s.channel m with crst := true }
    show ((s.setChannel m { s.channel m with crst := true }).channel m').taken = _ ∧
      ((s.setChannel m { s.channel m with crst := true }).channel m').serial = _
    rw [hc]
    split
    · next e =>
      subst e
      exact ⟨rfl, rfl⟩
    · exact ⟨rfl, rfl⟩

/-- POWER_ON_RESET sets every block to its power-on value (R66). -/
theorem atPowerOn_powerOn {s t : State} (h : execPowerOnReset s = .next t) : t.atPowerOn := by
  cases h
  refine ⟨rfl, rfl, rfl, rfl, rfl, rfl, rfl, rfl, rfl, rfl, rfl, rfl, fun m => ?_, fun shown => ?_⟩
  · simp [State.channel, Channel.powerOn]
  · show s.link.period.abandon ≠ .running shown
    cases s.link.period <;> nofun

/-- Under PORST# a command leaves every block at its power-on value, or is its release (R66, R171, R179). -/
theorem exec_powerOnHolds {i : Instr} {s t : State} (hp : s.porst = true) (hs : s.atPowerOn)
    (h : exec i s = .next t) : t.porst = true → t.atPowerOn := by
  have rests : Rests s t → t.porst = true → t.atPowerOn := fun hr _ => hr.atPowerOn hs
  obtain ⟨-, -, -, -, hwait, hengine, -, -, hport, -, -, -, hchannel, -⟩ := id hs
  cases i with
  | requestAcceptance m o =>
    have hna : ¬ s.mayAccept m := fun ⟨hn, _⟩ => nomatch hp.symm.trans hn
    rw [exec_wait hna] at h
    cases h
    have htaken : ¬ (s.beginEvent.channel m).taken = true := by simp [(hchannel m).1]
    refine rests ?_
    rw [State.offerWaits, if_neg htaken]
    exact rests_setChannel rfl rfl
  | offerRemoval m =>
    rw [exec_offerRemoval, execOfferRemoval, if_neg (by simp [(hchannel m).1])] at h
    cases h
    exact rests (rests_beginEvent s)
  | searchBegin =>
    rw [exec_searchBegin, execSearchBegin, hengine, hwait] at h
    cases h
    exact rests (rests_beginEvent s)
  | searchCompletion =>
    rw [exec_searchCompletion, execSearchCompletion, hengine] at h
    cases h
    exact rests (rests_beginEvent s)
  | repeatedSearchCompletion =>
    rw [exec_repeatedSearchCompletion, execRepeatedSearchCompletion, hengine] at h
    cases h
    exact rests (rests_beginEvent s)
  | tagGrant k choice =>
    rw [exec_tagGrant, execTagGrant, grant_atPowerOn ((rests_beginEvent s).atPowerOn hs), ite_self] at h
    cases h
    exact rests (rests_beginEvent s)
  | answer tag status data check =>
    rw [exec_answer, execAnswer, if_pos hp] at h
    cases h
    exact rests (rests_beginEvent s)
  | deadlineExpiry k =>
    have hfree : (s.tag k).state = .free := by rw [State.tag, hport]; simp [State.reset, Port.powerOn]
    rw [exec_deadlineExpiry, execDeadlineExpiry, hfree] at h
    cases h
    exact rests (rests_beginEvent s)
  | cleared =>
    rw [exec_cleared, execCleared, if_pos hp] at h
    cases h
    exact rests (rests_beginEvent s)
  | clearDeadlineExpiry =>
    rw [exec_clearDeadlineExpiry, execClearDeadlineExpiry, hport] at h
    cases h
    exact rests (rests_beginEvent s)
  | channelResetAssertion m =>
    cases h
    exact rests (rests_assertChannelReset hs m)
  | channelResetRelease m =>
    cases h
    exact rests (rests_setChannel rfl rfl)
  | powerOnReset =>
    exact fun _ => atPowerOn_powerOn h
  | powerOnResetRelease =>
    cases h
    exact nofun
  | mselAssertion =>
    rw [exec_mselAssertion, execMselAssertion] at h
    split at h <;> cases h
    · refine rests ⟨rfl, rfl, rfl, rfl, rfl, rfl, rfl, rfl, rfl, rfl, rfl, rfl, fun _ => ⟨rfl, rfl⟩, fun shown hr => ?_⟩
      have hr : (if s.porst then Period.ignored s.link.buffer else .running s.link.buffer) = .running shown := hr
      rw [if_pos hp] at hr
      exact nomatch hr
    · exact rests (rests_beginEvent s)
    · exact rests (rests_beginEvent s)
  | shortPeriod edges =>
    rw [exec_shortPeriod, execShortPeriod] at h
    split at h <;> cases h
    · exact rests (rests_frameEvent hp ..)
    · exact rests (rests_beginEvent s)
  | readPeriod bytes tail =>
    rw [exec_readPeriod, execReadPeriod] at h
    split at h <;> cases h
    · exact rests (rests_frameEvent hp ..)
    · exact rests (rests_beginEvent s)
  | badcmd code f =>
    rw [exec_badcmd, execBadcmd] at h
    split at h <;> cases h
    · exact rests (rests_frameEvent hp ..)
    · exact rests (rests_beginEvent s)
  | status | stage | commit | readWindow | bind | readBinding | readStream | popFault | setDeadline | backClear =>
    cases h
    exact rests (rests_frameEvent hp ..)

/-- No event asserts PORST# (R66). -/
theorem Event.porst {s t : State} (h : Event s t) (hp : t.porst = true) : s.porst = true := by
  cases h with
  | none | searchBegins | searchDiscarded | searchRepeats | cleared | clearFails | clearStarts | channelRelease |
    commit | bind | popFault => exact hp
  | accept m o => exact (keepsTables_acceptOffer s m o).porst ▸ hp
  | searchDelivers v =>
    obtain ⟨streams, he⟩ := loadStream_fields { s with engine := .idle } v.lookup
      (State.findWindow { s with engine := .idle } v.lookup.ctx v.lookup.granule.toNat)
    have hd := (deliver_tables { s with engine := .idle } v.lookup).porst
    rw [he] at hd
    exact hd ▸ hp
  | grant k choice => exact (keepsTables_grant s k choice).porst ▸ hp
  | answer k status data check => exact (keepsTables_answerTag s k status data check).porst ▸ hp
  | expire k l => exact (expireTag_keeps s k l).porst ▸ hp
  | channelReset m =>
    rw [assertChannelReset_eq, (keepsTables_abandonRequest _ m).porst] at hp
    exact hp

/-- Under PORST# the part keeps its power-on values, and PORST# sets them (R66, R171, R179). -/
theorem step_powerOnHolds {s t : State} (hs : PowerOnHolds s) (h : step s = .next t) : PowerOnHolds t := by
  by_cases hp : s.porst = true
  · unfold step at h
    split at h
    case h_1 =>
      cases h
      exact hs
    case h_2 c rest _ => exact exec_powerOnHolds (s := { s with pending := rest }) hp (hs hp) h
  · rcases step_happens h with ⟨rest, hr⟩ | ⟨u, v, hu, hv, ht⟩
    · exact fun _ => atPowerOn_powerOn hr
    · exact fun hpt => (hp (hu.porst (hv.porst (ht.porst hpt)))).elim

/-! ## All the laws together -/

/-- The laws of `Safe` but those of windows and of PORST#. -/
structure PartLaws (s : State) : Prop where
  streams : StreamsCurrent s
  work : WorkLaws s
  repeats : RepeatsAreCurrent s
  channels : ChannelsQuiet s
  quarantine : NothingWaitsOnQuarantine s
  drain : DrainLaws s
  log : LogOrdered s

theorem safe_iff (s : State) : Safe s ↔ WindowsSeparate s ∧ PowerOnHolds s ∧ PartLaws s := by
  constructor
  · rintro ⟨hwin, hst, hl, hrep, hres, hq, hwd, hcl, ht, hnw, hdb, hop, hdm, hold, hlog, hpor⟩
    exact ⟨hwin, hpor, hst, ⟨⟨hq, ht, hwd, hcl⟩, hl⟩, hrep, (resetChannelsQuiet_iff hl).1 hres, hnw,
      (drainLaws_iff s).2 ⟨hdb, hop, hdm, hold⟩, hlog⟩
  · rintro ⟨hwin, hpor, hst, ⟨⟨hq, ht, hwd, hcl⟩, hl⟩, hrep, hch, hnw, hdr, hlog⟩
    obtain ⟨hdb, hop, hdm, hold⟩ := (drainLaws_iff s).1 hdr
    exact ⟨hwin, hst, hl, hrep, (resetChannelsQuiet_iff hl).2 hch, hq, hwd, hcl, ht, hnw, hdb, hop, hdm, hold, hlog,
      hpor⟩

theorem Quiet.partLaws {s t : State} (h : Quiet s t) (hs : PartLaws s) : PartLaws t :=
  ⟨h.streamsCurrent hs.streams, h.workLaws hs.work, repeatsAreCurrent_congr h.engine h.windows hs.repeats,
    h.channelsQuiet hs.channels, h.nothingWaits hs.quarantine, h.evolves.drainLaws hs.drain,
    (h.evolves.log.ordered hs.log : t.log.ordered)⟩

theorem Event.partLaws {s t : State} (h : Event s t) (hs : PartLaws s) : PartLaws t ∧ KeepsDrain s t := by
  obtain ⟨hst, hw, hrep, hch, hnw, hdr, hlog⟩ := hs
  obtain ⟨hdr', hkeeps⟩ := h.drain hw hst hdr
  exact ⟨⟨h.streamsCurrent hst, h.workLaws hw, h.repeatsAreCurrent hrep, h.channelsQuiet hdr hw hst hch,
    h.nothingWaits hw hnw, hdr', h.logOrdered hw hst hdr hlog⟩, hkeeps⟩

theorem partLaws_powerOn {s t : State} (h : execPowerOnReset s = .next t) : PartLaws t := by
  refine ⟨streamsCurrent_powerOn h, workLaws_powerOn h, ?_, ?_, nothingWaits_powerOn h, (drain_powerOn h).1, ?_⟩ <;>
    cases h
  · trivial
  · exact fun m _ => ⟨by simp [State.record, State.reset], by simp [State.stream, State.reset]⟩
  · exact logOrdered_reset

/-- Settles O60: by what PORST#, or the one event of a step, does to each law and to the drain. -/
theorem safeIsKept : Obligations.SafeIsKept := by
  unfold Obligations.SafeIsKept
  intro s t hs h
  obtain ⟨hwin, hpor, hlaws⟩ := (safe_iff s).1 hs
  have hsafe : PartLaws t → Safe t := fun ht =>
    (safe_iff t).2 ⟨windowsStaySeparate s t hwin h, step_powerOnHolds hpor h, ht⟩
  rcases step_happens h with ⟨rest, hr⟩ | ⟨u, v, hu, hv, ht⟩
  · obtain ⟨-, hk⟩ := drain_powerOn hr
    exact ⟨hsafe (partLaws_powerOn hr), KeepsDrain.drainKeepsWork ⟨hk.stays, hk.passes⟩⟩
  · obtain ⟨hlaws', hk⟩ := hv.partLaws (hu.partLaws hlaws)
    exact ⟨hsafe (ht.partLaws hlaws'), ((hu.keepsDrain_before hk).evolves ht.evolves hlaws'.drain).drainKeepsWork⟩

end Sys2Proof.Machine
end

section
/-! SUPPORT. The front channels, the answer to an orphan, the release of the reset lines and the part under PORST#:
O58, O5, O11, O32 and O41. -/

namespace Sys2Proof.Machine

/-! ## Acceptance and waiting (R47, R51, R64) -/

/-- The acceptance of an unbound master's request replies UNBOUND and hands in its record (R51). -/
theorem acceptOffer_of_unbound {s : State} {m : Master} (h : s.binding m = none) (o : Offer) :
    s.acceptOffer m o =
      ((s.takeOffer m o).handIn (unboundFault m (s.channel m).serial o)).sendReply m unboundReply := by
  unfold State.acceptOffer
  simp only [h]

/-- An offer not taken stands on its channel (R47, R64). -/
theorem offerWaits_of_open {s : State} {m : Master} (h : (s.channel m).taken = false) (o : Offer) :
    s.offerWaits m o = s.setChannel m { s.channel m with offer := some o } := by
  simp [State.offerWaits, h]

/-- While an offer once taken stands, no other is looked at (R47). -/
theorem offerWaits_of_taken {s : State} {m : Master} (h : (s.channel m).taken = true) (o : Offer) :
    s.offerWaits m o = s := by
  simp [State.offerWaits, h]

theorem not_mayAccept_of_taken {s : State} {m : Master} (h : (s.channel m).taken = true) : ¬ s.mayAccept m := by
  rintro ⟨-, -, hfree, -⟩
  simp [h] at hfree

/-- The removal of a taken offer (R47). -/
theorem exec_removal {s : State} {m : Master} (h : (s.channel m).taken = true) :
    exec (.offerRemoval m) s =
      .next (s.beginEvent.setChannel m { s.channel m with offer := none, taken := false }) := by
  rw [exec_offerRemoval, execOfferRemoval, if_pos h]

/-! ## Answers to orphans (R63, R83, R125) -/

/-- An answer on a LIVE tag of an orphan, whatever it carries (R83). -/
theorem answerTag_of_orphan {s : State} {t : TagNo} {l : LiveWork} {x : Orphan} (hl : (s.tag t).state = .live l)
    (ho : l.owner = .orphan x) (status : AnswerStatus) (data : Bytes8) (check : Byte) :
    s.answerTag t status data check = (s.freeTag t).endOrphan t := by
  unfold State.answerTag State.answerLive
  simp only [hl, ho]

/-! ## The statements -/

/-- Settles O58: under PORST# no command moves the part from its power-on values, and only POWER_ON_RESET asserts
PORST#. -/
theorem powerOnValuesHold : Obligations.PowerOnValuesHold := by
  unfold Obligations.PowerOnValuesHold
  exact fun _ _ => step_powerOnHolds

/-- Settles O5: the unbound branch of the acceptance, field by field. -/
theorem unboundRequestReplies : Obligations.UnboundRequestReplies := by
  unfold Obligations.UnboundRequestReplies
  intro m o s ha hb
  have hb' : s.beginEvent.binding m = none := hb
  rw [exec_accept ha, acceptOffer_of_unbound hb']
  rfl

/-- Settles O11: a free channel holds the offer that waits, a taken one is left until the removal. -/
theorem offersWaitUntilRemoved : Obligations.OffersWaitUntilRemoved := by
  unfold Obligations.OffersWaitUntilRemoved
  refine fun m o s => ⟨fun hn hfree => ?_, fun htaken => ⟨?_, ?_⟩⟩
  · have hfree' : (s.beginEvent.channel m).taken = false := hfree
    rw [exec_wait hn, offerWaits_of_open hfree']
    rfl
  · have htaken' : (s.beginEvent.channel m).taken = true := htaken
    rw [exec_wait (not_mayAccept_of_taken htaken), offerWaits_of_taken htaken']
    rfl
  · rw [exec_removal htaken]
    rfl

/-- Settles O32: the answer is interpreted by the state of the tag it names, LIVE with an orphan's work. -/
theorem answerEndsOrphan : Obligations.AnswerEndsOrphan := by
  unfold Obligations.AnswerEndsOrphan
  intro s tag t status data check l o hp ht hl ho
  have hl' : (s.beginEvent.tag t).state = .live l := hl
  rw [exec_answer_tag hp ht, answerTag_of_orphan hl' ho]
  rfl

/-- Settles O41: each release is the update of its line. -/
theorem releasesOpenChannels : Obligations.ReleasesOpenChannels := by
  unfold Obligations.ReleasesOpenChannels
  refine ⟨fun m s => ?_, fun s => ?_⟩
  · rw [exec_channelResetRelease, execChannelResetRelease]
    rfl
  · rw [exec_powerOnResetRelease, execPowerOnResetRelease]
    rfl

end Sys2Proof.Machine
end

section
/-! SUPPORT. The reply of a request whose operations have ended: O20 and O21. -/

namespace Sys2Proof.Machine

/-! ## The last operation (R54, R55, R61) -/

theorem isDone_iff (x : OpState) : x.isDone = true ↔ ∃ (st : OpStatus) (t : Option TagNo), x = .done st t := by
  cases x <;> simp [OpState.isDone]

theorem isDone_eq_false_iff (x : OpState) : x.isDone = false ↔ x = .pending ∨ ∃ t : TagNo, x = .issued t := by
  cases x <;> simp [OpState.isDone]

/-- Past LOOKUP a request is finished when its operations are all DONE (R54, R55). -/
theorem finished_eq_all {r : Request} (h : r.state ≠ .lookup) : r.finished = r.ops.all (·.state.isDone) := by
  unfold Request.finished
  cases hs : r.state with
  | lookup => exact absurd hs h
  | held => rfl
  | active => rfl

/-- Settles O21: a finished request replies, any other is left. -/
theorem lastOperationReplies : Obligations.LastOperationReplies := by
  unfold Obligations.LastOperationReplies
  refine fun s m r hr hstate => ⟨fun hdone => ?_, fun ⟨o, ho, hopen⟩ => ?_⟩
  · have hf : r.finished = true := by
      rw [finished_eq_all hstate, List.all_eq_true]
      exact fun o ho => (isDone_iff o.state).2 (hdone o ho)
    rw [finishRequest_of_finished hr hf, replyRequest_eq]
  · have hf : r.finished = false := by
      rw [finished_eq_all hstate, List.all_eq_false]
      exact ⟨o, ho, by simp [(isDone_eq_false_iff o.state).2 hopen]⟩
    exact finishRequest_of_unfinished (by simpa [hr] using hf)

/-! ## The status of operations (R58, R59, R85) -/

/-- The reply status an operation decides by its failure, or leaves to those after it (R85). -/
@[simp] def OpState.statusOr : OpState → ReplyStatus → ReplyStatus
  | .done (.failed c) _, _ => c.replyStatus
  | .done .ok _, st => st
  | .pending, st => st
  | .issued _, st => st

@[simp] theorem causeReplyStatus_ne_ok (c : Cause) : c.replyStatus ≠ .ok := by cases c <;> simp [Cause.replyStatus]

@[simp] theorem opsStatus_nil : opsStatus [] = .ok := rfl

/-- The lowest-laned operation decides first (R85). -/
theorem opsStatus_cons (o : WordOp) (rest : List WordOp) :
    opsStatus (o :: rest) = o.state.statusOr (opsStatus rest) := by
  unfold opsStatus
  rw [List.findSome?_cons]
  rcases o.state with _ | t | ⟨_ | c, tag⟩ <;> rfl

/-- Operations that are all OK leave the status to those after them; a failure among them decides (R85). -/
theorem opsStatus_append (xs ys : List WordOp) :
    opsStatus (xs ++ ys) = if opsStatus xs = .ok then opsStatus ys else opsStatus xs := by
  induction xs with
  | nil => simp
  | cons o xs ih =>
    rw [List.cons_append, opsStatus_cons, opsStatus_cons]
    rcases o.state with _ | t | ⟨_ | c, tag⟩
    case done.failed => exact (if_neg (causeReplyStatus_ne_ok c)).symm
    all_goals exact ih

/-! ## The status of a request (R59) -/

/-- A TRANSLATED part takes its status from its own operations (R59, R85). -/
theorem partFinal_eq_opsStatus {p : Part} (h : p.status = .translated) (r : Request) :
    partFinal r p = opsStatus (r.ops.filter (·.label = p.label)) := by
  simp [partFinal, h]

theorem filter_label_self {ops : List WordOp} {x : Label} (h : ∀ o ∈ ops, o.label = x) :
    ops.filter (·.label = x) = ops :=
  List.filter_eq_self.2 fun o ho => by simp [h o ho]

theorem filter_label_other {ops : List WordOp} {x y : Label} (h : ∀ o ∈ ops, o.label = x) (hne : x ≠ y) :
    ops.filter (·.label = y) = [] :=
  List.filter_eq_nil_iff.2 fun o ho => by simp [h o ho, hne]

/-- A request of one part takes that part's status (R59). -/
theorem replyStatus_of_alone {r : Request} (h2 : r.part2 = none) : replyStatus r = partFinal r r.part1 := by
  unfold replyStatus
  rw [h2]
  cases partFinal r r.part1 <;> rfl

/-- The status of a request of one TRANSLATED part is that of its operations (R59). -/
theorem replyStatus_of_onePart {r : Request} (h1 : r.part1.status = .translated) (h2 : r.part2 = none)
    (hl : ∀ o ∈ r.ops, o.label = r.part1.label) : replyStatus r = opsStatus r.ops := by
  rw [replyStatus_of_alone h2, partFinal_eq_opsStatus h1, filter_label_self hl]

/-- The status of a request of two TRANSLATED parts is that of its operations, the first part's before the
second's (R59). -/
theorem replyStatus_of_twoParts {r : Request} {q : Part} {xs ys : List WordOp} (h1 : r.part1.status = .translated)
    (h2 : r.part2 = some q) (hq : q.status = .translated) (hne : q.label ≠ r.part1.label) (hops : r.ops = xs ++ ys)
    (hx : ∀ o ∈ xs, o.label = r.part1.label) (hy : ∀ o ∈ ys, o.label = q.label) :
    replyStatus r = opsStatus r.ops := by
  have hf1 : partFinal r r.part1 = opsStatus xs := by
    rw [partFinal_eq_opsStatus h1, hops, List.filter_append, filter_label_self hx, filter_label_other hy hne,
      List.append_nil]
  have hf2 : partFinal r q = opsStatus ys := by
    rw [partFinal_eq_opsStatus hq, hops, List.filter_append, filter_label_self hy, filter_label_other hx hne.symm,
      List.nil_append]
  rw [hops, opsStatus_append]
  split
  case isTrue hok => rw [replyStatus_of_second (hf1.trans hok) h2, hf2]
  case isFalse hfail => rw [replyStatus_of_first (hf1 ▸ hfail), hf1]

/-- A reply that is OK carries the gathered lanes of a READ, and no data of a WRITE (R60). -/
theorem composeReply_of_ok {r : Request} (h : replyStatus r = .ok) :
    composeReply r =
      { status := .ok, posted := false
        data := if r.kind = .read then replyLanes r.sizeM1 r.gathered else Bytes8.zero } := by
  simp [composeReply, h]

/-- Settles O20: the reply status is that of the operations in lane order, and the data follows from it. -/
theorem replyIsComposed : Obligations.ReplyIsComposed := by
  unfold Obligations.ReplyIsComposed
  refine ⟨fun r a b sa sb ta tb h1 ha hb hops hparts => ?_, fun r a sa ta h1 h2 ha hops hl => ?_, fun c => ?_⟩
  · have hst : replyStatus r = opsStatus [a, b] := by
      rw [← hops]
      rcases hparts with ⟨h2, hla, hlb⟩ | ⟨q, h2, hq, hla, hlb, hne⟩
      · exact replyStatus_of_onePart h1 h2 (by simp [hops, hla, hlb])
      · exact replyStatus_of_twoParts h1 h2 hq hne (xs := [a]) (ys := [b]) hops (by simp [hla]) (by simp [hlb])
    rw [opsStatus_cons, opsStatus_cons, opsStatus_nil, ha, hb] at hst
    cases sa with
    | failed c => simp [composeReply_of_failed hst (causeReplyStatus_ne_ok c)]
    | ok =>
      cases sb with
      | failed c => simp [composeReply_of_failed hst (causeReplyStatus_ne_ok c)]
      | ok => simpa using composeReply_of_ok hst
  · have hst : replyStatus r = opsStatus [a] := by
      rw [← hops]
      exact replyStatus_of_onePart h1 h2 (by simp [hops, hl])
    rw [opsStatus_cons, opsStatus_nil, ha] at hst
    cases sa with
    | failed c => simp [composeReply_of_failed hst (causeReplyStatus_ne_ok c)]
    | ok => simpa using composeReply_of_ok hst
  · cases c <;> rfl

end Sys2Proof.Machine
end

section
/-! SUPPORT. Lanes and byte positions: O19. -/

namespace Sys2Proof.Machine

/-! ## Runs, and single bytes (R70, R71) -/

theorem has_iff (r : Run) (i : Nat) : r.has i = true ↔ r.lo ≤ i ∧ i < r.lo + r.len := by
  simp [Run.has]

@[simp] theorem byteAt_fin (v : Bytes8) (i : Fin 8) : byteAt v i.val = v[i] := by
  simp [byteAt]

/-- Position p of the mask and lane i of the lanes correspond: each as far from the start of its run (R70, R71). -/
def Corresponds (mask lanes : Run) (p i : Nat) : Prop :=
  mask.len = lanes.len ∧ lanes.lo ≤ i ∧ i < lanes.lo + lanes.len ∧ p = mask.lo + (i - lanes.lo)

theorem Corresponds.mask_has {mask lanes : Run} {p i : Nat} (h : Corresponds mask lanes p i) : mask.has p = true := by
  obtain ⟨hlen, hlo, hhi, hp⟩ := h
  rw [has_iff]
  omega

theorem Corresponds.lane {mask lanes : Run} {p i : Nat} (h : Corresponds mask lanes p i) :
    lanes.lo + (p - mask.lo) = i := by
  obtain ⟨-, hlo, -, hp⟩ := h
  omega

/-! ## What each operation on lanes gives at a byte -/

/-- A WRITE records the lanes of its size (R46). -/
theorem recordedLanes_write_get (size : BitVec 3) (lanes : Bytes8) (i : Fin 8) :
    (recordedLanes .write size lanes)[i] = if i.val ≤ size.toNat then lanes[i] else 0 := by
  simp [recordedLanes, Machine.sizeOf]

/-- The lane's byte stands at the position that corresponds to it (R70, R71). -/
theorem placeLanes_get {mask lanes : Run} {p i : Fin 8} (h : Corresponds mask lanes p i) (v : Bytes8) :
    (placeLanes mask lanes v)[p] = v[i] := by
  have hb : byteAt v (lanes.lo + (p.val - mask.lo)) = v[i] := by rw [h.lane, byteAt_fin]
  simpa [placeLanes, h.mask_has] using hb

/-- The merged word has the operation's bytes in the mask, the word's elsewhere (R81). -/
theorem mergeWord_get (mask : Run) (data old : Bytes8) (p : Fin 8) :
    (mergeWord mask data old)[p] = if mask.lo ≤ p.val ∧ p.val < mask.lo + mask.len then data[p] else old[p] := by
  simp [mergeWord, has_iff]

/-- The position's byte is gathered on the lane that corresponds to it (R70, R84). -/
theorem gatherLanes_get {mask lanes : Run} {p i : Fin 8} (h : Corresponds mask lanes p i) (word acc : Bytes8) :
    (gatherLanes mask lanes word acc)[i] = word[p] := by
  obtain ⟨-, hlo, hhi, hp⟩ := h
  have hl : lanes.has i.val = true := (has_iff lanes i.val).2 ⟨hlo, hhi⟩
  have hb : byteAt word (mask.lo + (i.val - lanes.lo)) = word[p] := by rw [← hp, byteAt_fin]
  simpa [gatherLanes, hl] using hb

/-- Lanes that are not the operation's keep what was gathered before (R84). -/
theorem gatherLanes_get_of_not {lanes : Run} {i : Fin 8} (h : ¬ (lanes.lo ≤ i.val ∧ i.val < lanes.lo + lanes.len))
    (mask : Run) (word acc : Bytes8) : (gatherLanes mask lanes word acc)[i] = acc[i] := by
  have hl : lanes.has i.val = false := by rw [← Bool.not_eq_true, has_iff]; exact h
  simp [gatherLanes, hl]

/-- An OK READ returns the lanes of its size (R58, R60). -/
theorem replyLanes_get (size : BitVec 3) (gathered : Bytes8) (i : Fin 8) :
    (replyLanes size gathered)[i] = if i.val ≤ size.toNat then gathered[i] else 0 := by
  simp [replyLanes, Machine.sizeOf]

/-- Settles O19, byte by byte. -/
theorem lanesFollowPositions : Obligations.LanesFollowPositions := by
  unfold Obligations.LanesFollowPositions
  exact ⟨recordedLanes_write_get,
    fun _ _ v _ _ hlen hlo hhi hp => placeLanes_get ⟨hlen, hlo, hhi, hp⟩ v,
    mergeWord_get,
    fun _ _ word acc _ _ hlen hlo hhi hp => gatherLanes_get ⟨hlen, hlo, hhi, hp⟩ word acc,
    fun mask _ word acc _ h => gatherLanes_get_of_not h mask word acc,
    replyLanes_get⟩

end Sys2Proof.Machine
end

section
/-! SUPPORT. The arbiter's choice, and the grant to a request's operation: O22 and O23. -/

namespace Sys2Proof.Machine

/-! ## The cyclic order (R118, R119) -/

/-- The sources stand in the order of their turns from the pointer (R118). -/
theorem after_pairwise_turns (p : Source) : p.after.Pairwise fun a b => p.turns a ≤ p.turns b := by
  cases p with
  | pwq => decide
  | master m => revert m; decide

/-- No ready source comes before the one chosen (R119). -/
theorem nextSource_turns_le {s : State} {src other : Source} (h : s.nextSource = some src)
    (hready : s.sourceReady other = true) : s.port.pointer.turns src ≤ s.port.pointer.turns other := by
  obtain ⟨-, before, rest, hsplit, hbefore⟩ := List.find?_eq_some_iff_append.1 h
  have hmem := mem_after s.port.pointer other
  have horder := after_pairwise_turns s.port.pointer
  rw [hsplit] at hmem horder
  obtain ⟨-, hrest, -⟩ := List.pairwise_append.1 horder
  rcases List.mem_append.1 hmem with hb | hr
  · have hnot := hbefore other hb
    simp [hready] at hnot
  · rcases List.mem_cons.1 hr with rfl | hr
    · exact le_rfl
    · exact List.rel_of_pairwise_cons hrest hr

/-- No source is chosen exactly when none is ready (R119). -/
theorem nextSource_eq_none (s : State) : s.nextSource = none ↔ ∀ src : Source, s.sourceReady src = false := by
  simp only [State.nextSource, List.find?_eq_none, Bool.not_eq_true]
  exact ⟨fun h src => h src (mem_after _ src), fun h src _ => h src⟩

/-! ## Ready sources and ready operations (R72, R75, R118) -/

/-- A request source is ready when an operation of its record is (R72, R118). -/
theorem sourceReady_master (s : State) (m : Master) :
    s.sourceReady (.master m) = true ↔ ∃ r ∈ s.record m, ∃ i : Nat, i ∈ s.readyOps m r := by
  cases hr : s.record m with
  | none => simp [State.sourceReady, hr]
  | some r => simp [State.sourceReady, hr, List.eq_nil_iff_forall_not_mem]

/-- The PWQ is ready when it offers an entry (R99, R118). -/
theorem sourceReady_pwq (s : State) : s.sourceReady .pwq = true ↔ ∃ e : Entry, s.offeredEntry = some e :=
  Option.isSome_iff_exists

/-- Either choice takes an operation when there is one (R75). -/
theorem chooseOp_eq_none (choice : OpChoice) (ready : List Nat) : chooseOp choice ready = none ↔ ready = [] := by
  cases choice with
  | first => exact List.head?_eq_none_iff
  | second => exact List.getLast?_eq_none_iff

/-- Settles O22: the choice is the first ready source of the pointer's cyclic order, and the readiness of each source
is that of its work. -/
theorem arbiterTakesFirstReady : Obligations.ArbiterTakesFirstReady := by
  unfold Obligations.ArbiterTakesFirstReady
  refine ⟨fun s => ⟨fun src h => ⟨nextSource_ready h, fun other => nextSource_turns_le h⟩, nextSource_eq_none s⟩,
    sourceReady_master, fun s m r i => ?_, fun s m r choice => ⟨fun i => chooseOp_mem, chooseOp_eq_none choice _⟩,
    sourceReady_pwq, offeredEntry_iff_offers⟩
  rw [mem_readyOps]
  exact exists_congr fun o => and_congr_right fun _ => opReady_iff_readyFor s m r o

/-! ## The grant to a request (R77, R119, R120) -/

/-- The grant to a request source takes the chosen one of its ready operations (R75, R119). -/
theorem grant_of_request {s : State} {m : Master} {r : Request} {i : Nat} {o : WordOp} {choice : OpChoice}
    (hsrc : s.nextSource = some (.master m)) (hr : s.record m = some r)
    (hi : chooseOp choice (s.readyOps m r) = some i) (ho : r.ops[i]? = some o) (t : TagNo) :
    s.grant t choice = s.grantOp t m r i o := by
  unfold State.grant
  simp only [hsrc, hr, hi, ho]

/-- TAG_GRANT of a FREE tag makes the grant (R119). -/
theorem exec_grant_of_free {s : State} {t : TagNo} (hf : (s.tag t).state = .free) (choice : OpChoice) :
    exec (.tagGrant t choice) s = .next (s.beginEvent.grant t choice) := by
  rw [exec_tagGrant, execTagGrant, if_pos hf]

/-- Settles O23: the granted operation is the chosen one, and the command is that of its work. -/
theorem grantToRequest : Obligations.GrantToRequest := by
  unfold Obligations.GrantToRequest
  intro s t choice m r i o hf hsrc hr hi ho
  have hsrc' : s.beginEvent.nextSource = some (.master m) := hsrc
  have hr' : s.beginEvent.record m = some r := hr
  have hi' : chooseOp choice (s.beginEvent.readyOps m r) = some i := hi
  rw [exec_grant_of_free hf, grant_of_request hsrc' hr' hi' ho, grantOp_eq]
  cases hw : o.work <;> rfl

end Sys2Proof.Machine
end

section
/-! SUPPORT. Answers to a request's operation: O27, O28, O29 and O30. -/

namespace Sys2Proof.Machine

/-! ## What an answer does to work of each kind (R78 to R82, R90, R92) -/

theorem agrees_iff (data : Bytes8) (check : Byte) : agrees data check = true ↔ checkByte data = check := by
  simp [agrees]

/-- The bytes of a READ are gathered when the check byte agrees (R78, R84). -/
theorem answerEffect_read_good {data : Bytes8} {check : Byte} (h : checkByte data = check) :
    answerEffect .read .ok data check = .gathers := if_pos ((agrees_iff data check).2 h)

/-- An RMW is merged when the check byte of its read phase agrees (R81). -/
theorem answerEffect_readPhase_good {data : Bytes8} {check : Byte} (h : checkByte data = check) :
    answerEffect (.rmw .readPhase) .ok data check = .merges := if_pos ((agrees_iff data check).2 h)

/-- OK to a WRITE or a write phase completes it, whatever the data (R79, R82). -/
theorem answerEffect_write_ok {work : Work} (h : work = .write ∨ work = .rmw .writePhase) (data : Bytes8)
    (check : Byte) : answerEffect work .ok data check = .completes := by
  rcases h with rfl | rfl <;> rfl

/-- ERROR fails the work MEMORY, its bytes unverified (R91, R92). -/
theorem answerEffect_error (work : Work) (data : Bytes8) (check : Byte) :
    answerEffect work .error data check = .fails .memory := rfl

/-- Bytes that were read and disagree with their check byte fail the work CHECK (R78, R80). -/
theorem answerEffect_disagrees {work : Work} {data : Bytes8} {check : Byte}
    (hw : work = .read ∨ work = .rmw .readPhase) (h : checkByte data ≠ check) :
    answerEffect work .ok data check = .fails .check := by
  rcases hw with rfl | rfl <;> exact if_neg (mt (agrees_iff data check).1 h)

/-! ## The answer to an operation, field by field (R78 to R82, R125) -/

/-- An answer on the LIVE tag of a request's operation has the effect of the work it answers (R125). -/
theorem exec_answer_to_op {s : State} {tag : BitVec 3} {t : TagNo} {l : LiveWork} {m : Master} {label : Label}
    {r : Request} {o : WordOp} (hp : s.porst = false) (ht : tag.toNat = t.val) (hl : (s.tag t).state = .live l)
    (hown : l.owner = .request m label) (hr : s.record m = some r) (hop : r.opOnTag t = some o)
    (status : AnswerStatus) (data : Bytes8) (check : Byte) :
    exec (.answer tag status data check) s =
      .next (s.beginEvent.answerOp t m r o (.request m label) (answerEffect l.work status data check) data) := by
  have hl' : (s.beginEvent.tag t).state = .live l := hl
  have hr' : s.beginEvent.record m = some r := hr
  rw [exec_answer_tag hp ht, answerTag_of_request hl' hown hr' hop]

/-- The failure of an operation: one record, the tag FREE, nothing sent but a reply (R78 to R82). -/
theorem answerOp_fails_eq (s : State) (t : TagNo) (m : Master) (r : Request) (o : WordOp) (owner : Owner) (c : Cause)
    (data : Bytes8) :
    s.beginEvent.answerOp t m r o owner (.fails c) data = State.finishRequest { s with
      port := s.portFreed t
      log := s.log.handIn (opFault m r o c t)
      records := s.records.set m (some { r with
        ops := r.ops.map fun x => if x.state = .issued t then { x with state := .done (.failed c) (some t) } else x })
      out := Out.quiet } m := rfl

/-- Settles O27: the effect of a good answer to a READ is to gather. -/
theorem readAnswerGathers : Obligations.ReadAnswerGathers := by
  unfold Obligations.ReadAnswerGathers
  intro s tag t data check l m label r o hp ht hl hw hown hr hop hc
  rw [exec_answer_to_op hp ht hl hown hr hop, hw, answerEffect_read_good hc]
  rfl

/-- Settles O28: the effect of OK to a write is to complete. -/
theorem writeAnswerCompletes : Obligations.WriteAnswerCompletes := by
  unfold Obligations.WriteAnswerCompletes
  intro s tag t data check l m label r o hp ht hl hw hown hr hop
  rw [exec_answer_to_op hp ht hl hown hr hop, answerEffect_write_ok hw]
  rfl

/-- Settles O29: the effect of a good answer to a read phase is to merge. -/
theorem goodReadPhaseAnswerMerges : Obligations.GoodReadPhaseAnswerMerges := by
  unfold Obligations.GoodReadPhaseAnswerMerges
  intro s tag t data check l m label r o hp ht hl hw hown hr hop hc
  rw [exec_answer_to_op hp ht hl hown hr hop, hw, answerEffect_readPhase_good hc]
  rfl

/-- Settles O30: ERROR and a disagreement have the effect of a failure, each with its own cause. -/
theorem badAnswerFails : Obligations.BadAnswerFails := by
  unfold Obligations.BadAnswerFails
  intro s tag t status data check l m label r o cause kind hp ht hl hown hr hop hbad
  rw [exec_answer_to_op hp ht hl hown hr hop]
  rcases hbad with ⟨rfl, rfl, rfl⟩ | ⟨rfl, hw, hc, rfl, rfl⟩
  · rw [answerEffect_error, answerOp_fails_eq]
    rfl
  · rw [answerEffect_disagrees hw hc, answerOp_fails_eq]
    rfl

end Sys2Proof.Machine
end

section
/-! SUPPORT. The quarantine: what an expiry fails at once, and what waits: O36 and O37. -/

namespace Sys2Proof.Machine

/-! ## The expiry of a tag, by its owner (R124, R160) -/

/-- The expiry of a LIVE tag: its quarantine and the end of its work, then the waiting operations and the head of the
PWQ (R124, R160). -/
theorem exec_expiry_of_live {s : State} {t : TagNo} {l : LiveWork} (hl : (s.tag t).state = .live l) :
    exec (.deadlineExpiry t) s = .next (State.settleHead
      (masters.foldl State.judgeReadiness ((s.beginEvent.quarantine t l).expireWork t l))) := by
  rw [exec_deadlineExpiry]
  unfold execDeadlineExpiry
  rw [hl]
  rfl

theorem expireWork_of_request {s : State} {t : TagNo} {l : LiveWork} {m : Master} {label : Label} {r : Request}
    {o : WordOp} (hown : l.owner = .request m label) (hr : s.record m = some r) (hop : r.opOnTag t = some o) :
    s.expireWork t l = State.finishRequest ((s.handIn (opFault m r o .timeout t)).setRecord m
      (some (r.onTag t (WordOp.finish (.failed .timeout) (some t))))) m := by
  simp only [State.expireWork, hown, hr, hop]

theorem expireWork_of_entry {s : State} {t : TagNo} {l : LiveWork} {e : Entry} (hown : l.owner = .pwqEntry)
    (he : s.entryOnTag t = some e) : s.expireWork t l = s.failEntry e .timeout t := by
  simp only [State.expireWork, hown, he]

theorem expireWork_of_orphan {s : State} {t : TagNo} {l : LiveWork} {x : Orphan} (hown : l.owner = .orphan x) :
    s.expireWork t l = s.endOrphan t := by
  simp only [State.expireWork, hown]

/-- Settles O36: the tag's work ends by its owner, an operation, an entry or an orphan. -/
theorem expiryQuarantinesTag : Obligations.ExpiryQuarantinesTag := by
  unfold Obligations.ExpiryQuarantinesTag
  rintro s t l _ hl rfl
  rw [exec_expiry_of_live hl]
  refine ⟨fun m label r o hown hr hop => ?_, fun e hown he => ?_, fun x hown => ?_⟩
  · have hr' : (s.beginEvent.quarantine t l).record m = some r := hr
    rw [expireWork_of_request hown hr' hop]
    rfl
  · have he' : (s.beginEvent.quarantine t l).entryOnTag t = some e := he
    rw [expireWork_of_entry hown he']
    rfl
  · rw [expireWork_of_orphan hown]
    rfl

/-! ## Readiness judged (R74, R160) -/

/-- An operation that is not PENDING, or whose word is free of quarantine, does not fail (R74). -/
theorem failsAtReadiness_eq_none {s : State} {o : WordOp}
    (h : o.state ≠ .pending ∨ s.quarantinedBy o.word = none) : s.failsAtReadiness o = none :=
  h.elim failsAtReadiness_of_not_pending failsAtReadiness_of_free

/-- A PENDING operation whose word is quarantined fails, naming the tag (R74). -/
theorem failsAtReadiness_eq_some {s : State} {o : WordOp} {t : TagNo} (hp : o.state = .pending)
    (hq : s.quarantinedBy o.word = some t) : s.failsAtReadiness o = some t :=
  (failsAtReadiness_of_pending hp).trans hq

/-- Judging a record hands in the records of the operations that fail, in lane order, writes the operations and lets
the request reply (R54, R74, R160). -/
theorem judgeReadiness_eq {s : State} {m : Master} {r : Request} {faults : List FaultBody} {ops : List WordOp}
    (hr : s.record m = some r) (hfaults : s.readinessFaults m r = faults) (hops : r.ops.map s.timeoutOp = ops) :
    s.judgeReadiness m = State.finishRequest { s with
      log := faults.foldl FaultLog.handIn s.log
      records := s.records.set m (some { r with ops := ops }) } m := by
  subst hfaults hops
  unfold State.judgeReadiness
  simp only [hr, handInAll_eq]
  rfl

/-- The judgement of a record of two operations, from that of each (R74, R160). -/
theorem judgeReadiness_of_two {s : State} {m : Master} {r : Request} {a b : WordOp} {ta tb : Option TagNo}
    (hr : s.record m = some r) (hops : r.ops = [a, b]) (ha : s.failsAtReadiness a = ta)
    (hb : s.failsAtReadiness b = tb) :
    s.judgeReadiness m = State.finishRequest { s with
      log := ((ta.map (opFault m r a .timeout)).toList ++ (tb.map (opFault m r b .timeout)).toList).foldl
        FaultLog.handIn s.log
      records := s.records.set m (some { r with ops := [s.timeoutOp a, s.timeoutOp b] }) } m := by
  refine judgeReadiness_eq hr ?_ (by rw [hops]; rfl)
  unfold State.readinessFaults
  rw [hops]
  cases ta <;> cases tb <;> simp [ha, hb]

/-- A record none of whose operations fails is left to reply if it is finished (R54, R74). -/
theorem judgeReadiness_of_none {s : State} {m : Master} {r : Request} (hr : s.record m = some r)
    (h : ∀ o ∈ r.ops, s.failsAtReadiness o = none) : s.judgeReadiness m = s.finishRequest m := by
  have hfaults : s.readinessFaults m r = [] :=
    List.filterMap_eq_nil_iff.2 fun o ho => by rw [h o ho, Option.map_none]
  have hops : r.ops.map s.timeoutOp = r.ops :=
    (List.map_congr_left fun o ho => timeoutOp_of_none (h o ho)).trans (List.map_id' _)
  rw [judgeReadiness_eq hr hfaults hops]
  exact congrArg (State.finishRequest · m) (setRecord_self hr)

/-- Settles O37: the operations are judged each for itself, in lane order. -/
theorem quarantineFailsPending : Obligations.QuarantineFailsPending := by
  unfold Obligations.QuarantineFailsPending
  rintro s m r _ _ hr rfl rfl
  refine ⟨fun a t hops hp hq => ?_, fun a b t hops hp hq hfree => ?_, fun a b t hops hfree hp hq => ?_,
    fun a b t u hops hpa hqa hpb hqb => ?_, fun h => ?_⟩
  · rw [judgeReadiness_of_one hr hops (failsAtReadiness_eq_some hp hq)]
    rfl
  · have ha := failsAtReadiness_eq_some hp hq
    have hb := failsAtReadiness_eq_none hfree
    rw [judgeReadiness_of_two hr hops ha hb, timeoutOp_of_some ha, timeoutOp_of_none hb]
    rfl
  · have ha := failsAtReadiness_eq_none hfree
    have hb := failsAtReadiness_eq_some hp hq
    rw [judgeReadiness_of_two hr hops ha hb, timeoutOp_of_none ha, timeoutOp_of_some hb]
    rfl
  · have ha := failsAtReadiness_eq_some hpa hqa
    have hb := failsAtReadiness_eq_some hpb hqb
    rw [judgeReadiness_of_two hr hops ha hb, timeoutOp_of_some ha, timeoutOp_of_some hb]
    rfl
  · exact judgeReadiness_of_none hr fun o ho => failsAtReadiness_eq_none (h o ho)

end Sys2Proof.Machine
end

section
/-! SUPPORT. The check byte and the odd columns of a word: O17 and O18. -/

namespace Sys2Proof.Machine

/-! ## The parity of a column (R87) -/

/-- An odd number of the eight byte positions carry the mark `p`. -/
def oddColumn (p : Fin 8 → Bool) : Bool := (List.finRange 8).foldr (fun i acc => p i ^^ acc) false

theorem foldr_xor_eq_odd_count (p : Fin 8 → Bool) (l : List (Fin 8)) :
    l.foldr (fun i acc => p i ^^ acc) false = decide ((l.filter p).length % 2 = 1) := by
  induction l with
  | nil => rfl
  | cons i l ih =>
    rw [List.foldr_cons, ih, List.filter_cons]
    cases p i with
    | false => rw [if_neg Bool.false_ne_true, Bool.false_xor]
    | true =>
      rw [if_pos rfl, List.length_cons, Bool.true_xor, ← decide_not, decide_eq_decide]
      omega

theorem oddColumn_eq_decide (p : Fin 8 → Bool) :
    oddColumn p = decide (((List.finRange 8).filter p).length % 2 = 1) := foldr_xor_eq_odd_count p _

theorem foldr_xor_bne (p q : Fin 8 → Bool) (l : List (Fin 8)) :
    l.foldr (fun i acc => (p i != q i) ^^ acc) false =
      (l.foldr (fun i acc => p i ^^ acc) false ^^ l.foldr (fun i acc => q i ^^ acc) false) := by
  induction l with
  | nil => rfl
  | cons i l ih =>
    simp only [List.foldr_cons, ih]
    rw [Bool.bne_eq_xor, Bool.xor_assoc, Bool.xor_assoc, Bool.xor_left_comm (q i)]

/-- The positions in which two columns differ are odd in number exactly when one of the two columns alone is odd. -/
theorem oddColumn_bne (p q : Fin 8 → Bool) :
    oddColumn (fun i => p i != q i) = (oddColumn p ^^ oddColumn q) := foldr_xor_bne p q _

/-- The XOR chain of the check byte, one column at a time (R87). -/
theorem checkByte_getLsbD (d : Bytes8) {j : Nat} (hj : j < 8) :
    (checkByte d).getLsbD j = !oddColumn fun i => d[i].getLsbD j := by
  have hcolumn : oddColumn (fun i => d[i].getLsbD j) =
      (d[0].getLsbD j ^^ (d[1].getLsbD j ^^ (d[2].getLsbD j ^^ (d[3].getLsbD j ^^ (d[4].getLsbD j ^^
        (d[5].getLsbD j ^^ (d[6].getLsbD j ^^ (d[7].getLsbD j ^^ false)))))))) := rfl
  rw [hcolumn, checkByte]
  simp [hj]

/-- Settles O17: the complement of the column's XOR is set when the count is not odd. -/
theorem checkByteIsOddParity : Obligations.CheckByteIsOddParity := by
  unfold Obligations.CheckByteIsOddParity
  intro d j hj
  rw [checkByte_getLsbD d hj, Bool.not_eq_true', oddColumn_eq_decide, decide_eq_false_iff_not]
  exact Nat.mod_two_ne_one

/-! ## The nine bytes of an answer (R90, R93) -/

/-- An answer disagrees when the check byte of its data and the answered check byte differ in some bit (R90). -/
theorem agrees_eq_false_iff (data : Bytes8) (check : Byte) :
    agrees data check = false ↔ ∃ j < 8, ((checkByte data).getLsbD j ^^ check.getLsbD j) = true := by
  rw [← Bool.not_eq_true, agrees_iff, BitVec.eq_of_getLsbD_eq_iff]
  simp

/-- A count of changed bits, with one bit more that went from `b` to `c`, is odd. -/
theorem odd_add_change_iff (n : Nat) (b c : Bool) :
    (n + if b = c then 0 else 1) % 2 = 1 ↔ (decide (n % 2 = 1) ^^ (b ^^ c)) = true := by
  by_cases h : b = c
  · rw [if_pos h, h, Bool.xor_self, Bool.xor_false, decide_eq_true_iff, Nat.add_zero]
  · rw [if_neg h, Bool.eq_not.2 h, Bool.not_xor_self, Bool.xor_true, Bool.not_eq_true', decide_eq_false_iff_not]
    omega

/-- What changed in a column of the nine bytes, from those as written to the answer, is odd in number exactly when
the answer's own check bit is not that of its data: the column as written cancels out (R93). -/
theorem oddChange_iff (d d' : Bytes8) (check' : Byte) {j : Nat} (hj : j < 8) :
    (((List.finRange 8).filter fun i : Fin 8 => (d[i]).getLsbD j != (d'[i]).getLsbD j).length +
        (if (checkByte d).getLsbD j = check'.getLsbD j then 0 else 1)) % 2 = 1 ↔
      ((checkByte d').getLsbD j ^^ check'.getLsbD j) = true := by
  rw [odd_add_change_iff, ← oddColumn_eq_decide, oddColumn_bne, checkByte_getLsbD d hj, checkByte_getLsbD d' hj]
  cases oddColumn fun i => d[i].getLsbD j with
  | false => rw [Bool.false_xor, Bool.not_false, Bool.true_xor, Bool.xor_not, Bool.not_xor]
  | true => rw [Bool.true_xor, Bool.not_true, Bool.false_xor]

/-- Settles O18: column by column. -/
theorem disagreementIsAnOddColumn : Obligations.DisagreementIsAnOddColumn := by
  unfold Obligations.DisagreementIsAnOddColumn
  intro d d' check'
  rw [agrees_eq_false_iff]
  exact exists_congr fun j => and_congr_right fun hj => (oddChange_iff d d' check' hj).symm

end Sys2Proof.Machine
end

section
/-! SUPPORT. The Posted Write Queue: the grant to its head, the head under a quarantine, and the answers to its entries:
O24, O25, O26 and O31. -/

namespace Sys2Proof.Machine

/-! ## Grants that are made to the queue, and grants that are not (R99, R112, R119, R130) -/

/-- The grant to the PWQ takes the entry it offers (R99, R119). -/
theorem grant_of_entry {s : State} {e : Entry} (hsrc : s.nextSource = some .pwq) (he : s.offeredEntry = some e)
    (t : TagNo) (choice : OpChoice) : s.grant t choice = s.grantEntry t e := by
  unfold State.grant
  simp only [hsrc, he]

/-- Nothing is granted when no source is ready (R119). -/
theorem grant_of_no_source {s : State} (hsrc : s.nextSource = none) (t : TagNo) (choice : OpChoice) :
    s.grant t choice = s := by
  unfold State.grant
  simp only [hsrc]

/-- TAG_GRANT of a tag that is not FREE has no effect (R112; notes/assumptions/3.md). -/
theorem exec_grant_of_not_free {s : State} {t : TagNo} (hf : (s.tag t).state ≠ .free) (choice : OpChoice) :
    exec (.tagGrant t choice) s = .next s.beginEvent := by
  rw [exec_tagGrant, execTagGrant, if_neg hf]

/-- A source is ready only while the back port is NORMAL: R72 asks it of an operation, R99 of the entry offered. -/
theorem back_normal_of_sourceReady {s : State} {src : Source} (h : s.sourceReady src = true) :
    s.port.back = .normal := by
  cases src with
  | master m =>
    obtain ⟨r, -, i, hi⟩ := (sourceReady_master s m).1 h
    obtain ⟨o, -, hready⟩ := (mem_readyOps s m r i).1 hi
    obtain ⟨-, -, -, -, -, hback⟩ := (opReady_iff s m r o).1 hready
    exact hback
  | pwq =>
    obtain ⟨e, he⟩ := (sourceReady_pwq s).1 h
    obtain ⟨-, -, hback⟩ := offeredEntry_eq_some he
    exact hback

/-- Settles O24: the granted entry is the one the PWQ offers, and the command is that of its work. -/
theorem grantToQueue : Obligations.GrantToQueue := by
  unfold Obligations.GrantToQueue
  intro s t choice e hf hsrc he
  have hsrc' : s.beginEvent.nextSource = some .pwq := hsrc
  have he' : s.beginEvent.offeredEntry = some e := he
  rw [exec_grant_of_free hf, grant_of_entry hsrc' he', grantEntry_eq]
  cases hw : e.work <;> rfl

/-- Settles O25: a tag that is not FREE stops the command, no ready source stops the grant, and a port that is not
NORMAL leaves no source ready. -/
theorem noGrant : Obligations.NoGrant := by
  unfold Obligations.NoGrant
  refine fun s t choice => ⟨fun h => ?_, fun hback => ?_⟩
  · by_cases hf : (s.tag t).state = .free
    · have hsrc : s.beginEvent.nextSource = none := h.resolve_left (not_not_intro hf)
      rw [exec_grant_of_free hf, grant_of_no_source hsrc]
      rfl
    · rw [exec_grant_of_not_free hf]
      rfl
  · exact (nextSource_eq_none s).2 fun src => Bool.eq_false_iff.2 fun h => hback (back_normal_of_sourceReady h)

/-! ## Entries that fail or leave, field by field (R101, R104, R105, R144) -/

/-- The failure of an entry: a POSTED record, and the entry gone from the queue, the snapshots and the drain set
(R73, R104, R105, R144). -/
theorem failEntry_eq (s : State) (e : Entry) (c : Cause) (t : TagNo) :
    s.failEntry e c t = { s with
      log := s.log.handIn (postedFault e c t)
      pwq := s.pwq.filter fun x => x.id ≠ e.id
      records := Vector.ofFn fun m : Master => (s.record m).map (Request.forget e.id)
      drain := s.drain.update fun _ => Member.afterEntry e.id } := rfl

/-- Settles O26: a quarantined head fails and the queue left behind is judged; any other head stays. -/
theorem headUnderQuarantineFails : Obligations.HeadUnderQuarantineFails := by
  unfold Obligations.HeadUnderQuarantineFails
  refine fun s => ⟨fun e t ho hq => ?_, settleHead_of_free⟩
  rw [settleHead_of_quarantined ho hq, failEntry_eq]
  rfl

/-! ## Answers to an entry (R102 to R105, R125) -/

/-- An answer on the LIVE tag of a PWQ entry has the effect of the work it answers (R125). -/
theorem exec_answer_to_entry {s : State} {tag : BitVec 3} {t : TagNo} {l : LiveWork} {e : Entry}
    (hp : s.porst = false) (ht : tag.toNat = t.val) (hl : (s.tag t).state = .live l) (hown : l.owner = .pwqEntry)
    (he : s.entryOnTag t = some e) (status : AnswerStatus) (data : Bytes8) (check : Byte) :
    exec (.answer tag status data check) s =
      .next (s.beginEvent.answerEntry t e (answerEffect l.work status data check) data) := by
  have hl' : (s.beginEvent.tag t).state = .live l := hl
  have he' : s.beginEvent.entryOnTag t = some e := he
  rw [exec_answer_tag hp ht, answerTag_of_entry hl' hown he']

/-- An entry that fails on its tag leaves with a POSTED record, the tag FREE, nothing sent (R102, R104, R105). -/
theorem answerEntry_fails_eq (s : State) (t : TagNo) (e : Entry) (c : Cause) (data : Bytes8) :
    s.beginEvent.answerEntry t e (.fails c) data = { s with
      port := s.portFreed t
      log := s.log.handIn (postedFault e c t)
      pwq := s.pwq.filter fun x => x.id ≠ e.id
      records := Vector.ofFn fun m : Master => (s.record m).map (Request.forget e.id)
      drain := s.drain.update fun _ => Member.afterEntry e.id
      out := Out.quiet } :=
  failEntry_eq (s.beginEvent.freeTag t) e c t

/-- Settles O31: the effect of the answer is to merge, to complete, or to fail with a cause of its own. -/
theorem answerToEntry : Obligations.AnswerToEntry := by
  unfold Obligations.AnswerToEntry
  intro s tag t status data check l e hp ht hl hown he
  rw [exec_answer_to_entry hp ht hl hown he]
  refine ⟨?merges, ?completes, ?fails⟩
  case merges =>
    rintro rfl hw hc
    rw [hw, answerEffect_readPhase_good hc]
    rfl
  case completes =>
    rintro rfl hw
    rw [answerEffect_write_ok hw]
    rfl
  case fails =>
    rintro cause (⟨rfl, rfl⟩ | ⟨rfl, hw, hc, rfl⟩)
    · rw [answerEffect_error, answerEntry_fails_eq]
      rfl
    · rw [answerEffect_disagrees (Or.inr hw) hc, answerEntry_fails_eq]
      rfl

end Sys2Proof.Machine
end

section
/-! SUPPORT. Stray, late and dropped answers, and the Back Port's maintenance commands: O33, O35, O52 and O53. -/

namespace Sys2Proof.Machine

/-! ## Answers that answer no work (R126, R127, R179) -/

/-- An answer on a FREE tag is a stray (R127). -/
theorem answerTag_of_free {s : State} {t : TagNo} (h : (s.tag t).state = .free) (status : AnswerStatus)
    (data : Bytes8) (check : Byte) : s.answerTag t status data check = s.handIn (strayFault t (s.tag t).lastWord) := by
  unfold State.answerTag
  simp only [h]

/-- An answer on a QUARANTINED tag is late: it frees the tag (R126). -/
theorem answerTag_of_quarantined {s : State} {t : TagNo} {word : WordAddr} (h : (s.tag t).state = .quarantined word)
    (status : AnswerStatus) (data : Bytes8) (check : Byte) : s.answerTag t status data check = s.freeTag t := by
  unfold State.answerTag
  simp only [h]

/-- While PORST# is asserted an answer is dropped, whatever tag it names (R179). -/
theorem exec_answer_of_porst {s : State} (h : s.porst = true) (tag : BitVec 3) (status : AnswerStatus)
    (data : Bytes8) (check : Byte) : exec (.answer tag status data check) s = .next s.beginEvent := by
  rw [exec_answer, execAnswer, if_pos h]

/-- While PORST# is asserted CLEARED is dropped (R179). -/
theorem exec_cleared_of_porst {s : State} (h : s.porst = true) : exec .cleared s = .next s.beginEvent := by
  rw [exec_cleared, execCleared, if_pos h]

/-- Settles O33: the answer is interpreted by the state of the tag it names, FREE. -/
theorem strayAnswerIsLogged : Obligations.StrayAnswerIsLogged := by
  unfold Obligations.StrayAnswerIsLogged
  intro s tag t status data check hp ht hf
  have hf' : (s.beginEvent.tag t).state = .free := hf
  rw [exec_answer_tag hp ht, answerTag_of_free hf']
  rfl

/-- Settles O35: a late answer is interpreted by the QUARANTINED tag it names; under PORST# no tag is looked at. -/
theorem lateAndDroppedAnswers : Obligations.LateAndDroppedAnswers := by
  unfold Obligations.LateAndDroppedAnswers
  refine fun s tag status data check => ⟨fun t word hp ht hq => ?_, fun hp => ⟨?_, ?_⟩⟩
  · have hq' : (s.beginEvent.tag t).state = .quarantined word := hq
    rw [exec_answer_tag hp ht, answerTag_of_quarantined hq']
    rfl
  · exact exec_answer_of_porst hp tag status data check
  · exact exec_cleared_of_porst hp

/-! ## SET_DEADLINE and BACK_CLEAR (R122, R129, R130, R178) -/

theorem exec_setDeadline_frame (s : State) (v : Byte) :
    exec (.setDeadline ⟨[v], 0⟩) s = .next (s.commandFrame ⟨[v], 0⟩ (some (setDeadlineCommand v))) := rfl

theorem exec_backClear_frame (s : State) :
    exec (.backClear ⟨[], 0⟩) s = .next (s.commandFrame ⟨[], 0⟩ (some backClearCommand)) := rfl

theorem setDeadlineCommand_zero (s : State) : setDeadlineCommand 0 s = (s, bare .range) := if_pos rfl

theorem setDeadlineCommand_of_ne {v : Byte} (h : v ≠ 0) (s : State) :
    setDeadlineCommand v s = ({ s with port := { s.port with deadline := v } }, bare .done) := if_neg h

/-- BACK_CLEAR is refused while a tag is LIVE, or while a clear runs (R129). -/
theorem backClearCommand_busy {s : State}
    (h : (∃ (t : TagNo) (l : LiveWork), (s.tag t).state = .live l) ∨ s.port.back ≠ .normal) :
    backClearCommand s = (s, bare .busy) := by
  unfold backClearCommand
  rcases h with hlive | hback
  · rw [if_pos ((anyLive_iff s).2 hlive)]
  · cases hb : s.port.back with
    | normal => exact absurd hb hback
    | clearing count => exact ite_self _

/-- With no tag LIVE and no clear running the clear starts (R130). -/
theorem backClearCommand_accepted {s : State} (hlive : ∀ (t : TagNo) (l : LiveWork), (s.tag t).state ≠ .live l)
    (hback : s.port.back = .normal) : backClearCommand s = (s.startClear, bare .accepted) := by
  have hnone : ¬ s.anyLive = true := fun h => by
    obtain ⟨t, l, hl⟩ := (anyLive_iff s).1 h
    exact hlive t l hl
  unfold backClearCommand
  rw [if_neg hnone, hback]

/-- Settles O52: the value 0 is refused, any other replaces the deadline value and reaches no count that runs. -/
theorem setDeadlineSetsValue : Obligations.SetDeadlineSetsValue := by
  unfold Obligations.SetDeadlineSetsValue
  refine fun s v h => ⟨?_, fun hv => ?_⟩
  · rintro rfl
    exact exec_answersBare h (exec_setDeadline_frame s 0) rfl fun _ => setDeadlineCommand_zero _
  · rw [exec_setDeadline_frame, exec_frame h, setDeadlineCommand_of_ne hv]
    rfl

/-- Settles O53: the end of the period changes neither the tags nor the back-port state, so the conditions on s are
those that the command meets. -/
theorem backClearStartsClear : Obligations.BackClearStartsClear := by
  unfold Obligations.BackClearStartsClear
  refine fun s h => ⟨fun hbusy => ?_, fun hlive hback => ?_⟩
  · exact exec_answersBare h (exec_backClear_frame s) rfl fun b =>
      backClearCommand_busy (s := s.afterPeriod 1 0 b) hbusy
  · have haccepted : backClearCommand (s.beginEvent.endPeriod 1 0) = _ := backClearCommand_accepted hlive hback
    rw [exec_backClear_frame, exec_frame h]
    dsimp only [List.length_nil]
    rw [haccepted]
    rfl

end Sys2Proof.Machine
end

section
/-! SUPPORT. The end of a clear, and the last-clear result over every command: O38 and O39. -/

namespace Sys2Proof.Machine

/-! ## The end of a clear (R131, R132) -/

/-- CLEARED ends a running clear (R131). -/
theorem exec_cleared_of_clearing {s : State} {count : BitVec 8} (hp : s.porst = false)
    (hb : s.port.back = .clearing count) : exec .cleared s = .next s.beginEvent.afterCleared := by
  rw [exec_cleared, execCleared, if_neg (by simp [hp]), hb]
  rfl

/-- With no clear running CLEARED is ignored, PORST# asserted or not (R132). -/
theorem exec_cleared_of_normal {s : State} (hb : s.port.back = .normal) :
    exec .cleared s = .next s.beginEvent := by
  rw [exec_cleared, execCleared, hb]
  exact ite_self _

/-- The expiry of a running clear's count ends it FAILED (R132). -/
theorem exec_clearDeadlineExpiry_of_clearing {s : State} {count : BitVec 8} (hb : s.port.back = .clearing count) :
    exec .clearDeadlineExpiry s =
      .next { s.beginEvent with port := { s.port with back := .normal, lastClear := .failed } } := by
  rw [exec_clearDeadlineExpiry, execClearDeadlineExpiry, hb]

/-- With no clear running there is no count that could expire (notes/assumptions/3.md). -/
theorem exec_clearDeadlineExpiry_of_normal {s : State} (hb : s.port.back = .normal) :
    exec .clearDeadlineExpiry s = .next s.beginEvent := by
  rw [exec_clearDeadlineExpiry, execClearDeadlineExpiry, hb]

/-- Settles O38: by the back-port state; the tags after CLEARED are those of s, each released. -/
theorem clearEnds : Obligations.ClearEnds := by
  unfold Obligations.ClearEnds
  refine fun s => ⟨fun count hb => ⟨fun hp => ?_, exec_clearDeadlineExpiry_of_clearing hb⟩, exec_cleared_of_normal⟩
  refine ⟨s.afterCleared.port.tags, exec_cleared_of_clearing hp hb, fun t => ?_⟩
  rw [show s.afterCleared.port.tags[t] = (s.tag t).release from afterCleared_tag s t, Tag.release]
  obtain ⟨state, word⟩ := s.tag t
  cases state <;> rfl

/-! ## Operations that leave the last-clear result (R133) -/

theorem KeepsPort.lastClear {s t : State} (h : KeepsPort s t) : t.port.lastClear = s.port.lastClear :=
  congrArg Port.lastClear h.port

theorem acceptOffer_lastClear (s : State) (m : Master) (o : Offer) :
    (s.acceptOffer m o).port.lastClear = s.port.lastClear := by
  unfold State.acceptOffer
  dsimp only
  split
  · rfl
  · split
    · exact congrArg Port.lastClear (resolveFirst_port _ _ _)
    · rfl

theorem offerWaits_lastClear (s : State) (m : Master) (o : Offer) :
    (s.offerWaits m o).port.lastClear = s.port.lastClear := by
  unfold State.offerWaits
  split <;> rfl

theorem loadStream_port (s : State) (l : Lookup) (found : Option WinCopy) :
    (s.loadStream l found).port = s.port := by
  obtain ⟨streams, h⟩ := loadStream_fields s l found
  rw [h]

theorem deliver_lastClear (s : State) (l : Lookup) : (s.deliver l).port.lastClear = s.port.lastClear := by
  refine congrArg Port.lastClear ?_
  unfold State.deliver
  dsimp only
  split
  · exact (resolveFirst_port _ _ _).trans (loadStream_port _ _ _)
  · exact (resolveFirst_port _ _ _).trans (loadStream_port _ _ _)
  · exact (keepsPort_resolveSecond _ _ _).port.trans (loadStream_port _ _ _)

/-- A grant starts a tag and moves the pointer. -/
theorem grant_lastClear (s : State) (k : TagNo) (choice : OpChoice) :
    (s.grant k choice).port.lastClear = s.port.lastClear := by
  rcases grant_cases s k choice with h | ⟨e, -, h⟩ | ⟨m, r, i, o, -, -, -, h⟩ <;> rw [h]
  · exact (keepsPort_settleHead _).lastClear
  · rfl

theorem answerOp_lastClear (s : State) (t : TagNo) (m : Master) (r : Request) (o : WordOp) (owner : Owner)
    (effect : AnswerEffect) (data : Bytes8) :
    (s.answerOp t m r o owner effect data).port.lastClear = s.port.lastClear := by
  cases effect with
  | merges => rfl
  | completes | gathers | fails => exact (keepsPort_finishRequest _ _).lastClear

theorem answerEntry_lastClear (s : State) (t : TagNo) (e : Entry) (effect : AnswerEffect) (data : Bytes8) :
    (s.answerEntry t e effect data).port.lastClear = s.port.lastClear := by
  cases effect <;> rfl

theorem answerTag_lastClear (s : State) (t : TagNo) (status : AnswerStatus) (data : Bytes8) (check : Byte) :
    (s.answerTag t status data check).port.lastClear = s.port.lastClear := by
  cases hk : (s.tag t).state with
  | free => rw [answerTag_of_free hk]; rfl
  | quarantined word => rw [answerTag_of_quarantined hk]; rfl
  | live l =>
    unfold State.answerTag State.answerLive
    simp only [hk]
    split
    · rfl
    · split
      · rfl
      · exact answerEntry_lastClear _ _ _ _ _
    · split
      · rfl
      · split
        · rfl
        · exact answerOp_lastClear _ _ _ _ _ _ _ _

theorem abandonRequest_lastClear (s : State) (m : Master) :
    (s.abandonRequest m).port.lastClear = s.port.lastClear := by
  cases hr : s.record m with
  | none => rw [abandonRequest_of_none hr]
  | some r => rw [abandonRequest_of_some hr]

/-! ### Frames -/

/-- The frame event of a period leaves what its effect leaves. -/
theorem frameEvent_lastClear (s : State) (n k : Nat) {effect : State → State}
    (h : ∀ s', (effect s').port.lastClear = s'.port.lastClear) :
    (s.frameEvent n k effect).port.lastClear = s.port.lastClear := by
  unfold State.frameEvent
  split
  · exact h _
  · rfl

/-- The command leaves the last-clear result. -/
def LeavesLastClear (cmd : State → State × Response) : Prop := ∀ s, (cmd s).1.port.lastClear = s.port.lastClear

/-- A command frame leaves the last-clear result when its command does; a frame of the wrong length has none. -/
theorem commandFrame_lastClear (s : State) (f : Frame) {cmd : Option (State → State × Response)}
    (h : ∀ g ∈ cmd, LeavesLastClear g) : (s.commandFrame f cmd).port.lastClear = s.port.lastClear := by
  refine frameEvent_lastClear s _ _ fun s' => ?_
  cases cmd with
  | none => rfl
  | some g => exact h g rfl s'

theorem noArgs_lastClear (s : State) (f : Frame) {cmd : State → State × Response} (h : LeavesLastClear cmd) :
    (s.commandFrame f (noArgs f cmd)).port.lastClear = s.port.lastClear :=
  commandFrame_lastClear s f fun _ hg => mem_noArgs hg ▸ h

theorem oneArg_lastClear (s : State) (f : Frame) {cmd : Byte → State → State × Response}
    (h : ∀ a, LeavesLastClear (cmd a)) : (s.commandFrame f (oneArg f cmd)).port.lastClear = s.port.lastClear :=
  commandFrame_lastClear s f fun _ hg => by
    obtain ⟨a, rfl⟩ := mem_oneArg hg
    exact h a

theorem twoArgs_lastClear (s : State) (f : Frame) {cmd : Byte → Byte → State → State × Response}
    (h : ∀ a b, LeavesLastClear (cmd a b)) : (s.commandFrame f (twoArgs f cmd)).port.lastClear = s.port.lastClear :=
  commandFrame_lastClear s f fun _ hg => by
    obtain ⟨a, b, rfl⟩ := mem_twoArgs hg
    exact h a b

theorem commitCommand_lastClear (cb wb : Byte) : LeavesLastClear (commitCommand cb wb) := fun s => by
  rcases commitCommand_cases cb wb s with h | ⟨c, w, -, h⟩ <;> rw [h]
  rfl

theorem readWindowCommand_lastClear (cb wb : Byte) : LeavesLastClear (readWindowCommand cb wb) := fun s => by
  unfold readWindowCommand
  split <;> rfl

theorem bindCommand_lastClear (mb cb : Byte) : LeavesLastClear (bindCommand mb cb) := fun s => by
  unfold bindCommand
  split
  · split <;> rfl
  · rfl

theorem readBindingCommand_lastClear (mb : Byte) : LeavesLastClear (readBindingCommand mb) := fun s => by
  unfold readBindingCommand
  split <;> rfl

theorem readStreamCommand_lastClear (mb : Byte) : LeavesLastClear (readStreamCommand mb) := fun s => by
  unfold readStreamCommand
  split <;> rfl

theorem popFaultCommand_lastClear : LeavesLastClear popFaultCommand := fun s => by
  unfold popFaultCommand
  split <;> rfl

theorem setDeadlineCommand_lastClear (v : Byte) : LeavesLastClear (setDeadlineCommand v) := fun s => by
  by_cases hv : v = 0
  · rw [hv, setDeadlineCommand_zero]
  · rw [setDeadlineCommand_of_ne hv]

/-- A clear that starts has no result yet: the last one stays (R133). -/
theorem backClearCommand_lastClear : LeavesLastClear backClearCommand := fun s => by
  by_cases h : (∃ (t : TagNo) (l : LiveWork), (s.tag t).state = .live l) ∨ s.port.back ≠ .normal
  · rw [backClearCommand_busy h]
  · push Not at h
    obtain ⟨hlive, hback⟩ := h
    rw [backClearCommand_accepted hlive hback]
    rfl

/-! ## The last-clear result under every command (R133) -/

theorem searchCompletion_lastClear {s t : State} (h : exec .searchCompletion s = .next t) :
    t.port.lastClear = s.port.lastClear := by
  rw [exec_searchCompletion, execSearchCompletion] at h
  split at h
  · cases h; rfl
  · cases h; rfl
  · split at h
    · cases h; rfl
    · split at h <;> cases h
      · exact deliver_lastClear _ _
      · rfl

theorem repeatedSearchCompletion_lastClear {s t : State} (h : exec .repeatedSearchCompletion s = .next t) :
    t.port.lastClear = s.port.lastClear := by
  rw [exec_repeatedSearchCompletion, execRepeatedSearchCompletion] at h
  split at h
  · cases h; rfl
  · cases h; rfl
  · split at h <;> cases h
    · rfl
    · exact deliver_lastClear _ _

theorem answer_lastClear {s t : State} {tag : BitVec 3} {status : AnswerStatus} {data : Bytes8} {check : Byte}
    (h : exec (.answer tag status data check) s = .next t) : t.port.lastClear = s.port.lastClear := by
  rw [exec_answer, execAnswer] at h
  split at h
  · cases h; rfl
  · split at h <;> cases h
    · exact answerTag_lastClear _ _ _ _ _
    · rfl

/-- Every command but PORST# and the two that end a clear leaves the last-clear result. -/
theorem exec_lastClear {i : Instr} {s t : State} (hp : i ≠ .powerOnReset) (hc : i ≠ .cleared)
    (he : i ≠ .clearDeadlineExpiry) (h : exec i s = .next t) : t.port.lastClear = s.port.lastClear := by
  cases i with
  | powerOnReset => exact absurd rfl hp
  | cleared => exact absurd rfl hc
  | clearDeadlineExpiry => exact absurd rfl he
  | requestAcceptance m o =>
    rw [exec_requestAcceptance, execRequestAcceptance] at h
    split at h <;> cases h
    · exact acceptOffer_lastClear _ _ _
    · exact offerWaits_lastClear _ _ _
  | offerRemoval m =>
    rw [exec_offerRemoval, execOfferRemoval] at h
    split at h <;> cases h <;> rfl
  | searchBegin =>
    rw [exec_searchBegin, execSearchBegin] at h
    split at h <;> cases h <;> rfl
  | searchCompletion => exact searchCompletion_lastClear h
  | repeatedSearchCompletion => exact repeatedSearchCompletion_lastClear h
  | tagGrant k choice =>
    rw [exec_tagGrant, execTagGrant] at h
    split at h <;> cases h
    · exact grant_lastClear _ _ _
    · rfl
  | answer tag status data check => exact answer_lastClear h
  | deadlineExpiry k =>
    rw [exec_deadlineExpiry, execDeadlineExpiry] at h
    split at h <;> cases h
    · rfl
    · rfl
    · exact (expireTag_keeps _ _ _).lastClear
  | channelResetAssertion m => cases h; exact abandonRequest_lastClear _ _
  | channelResetRelease m => cases h; rfl
  | powerOnResetRelease => cases h; rfl
  | mselAssertion =>
    rw [exec_mselAssertion, execMselAssertion] at h
    split at h <;> cases h <;> rfl
  | shortPeriod edges =>
    rw [exec_shortPeriod, execShortPeriod] at h
    split at h <;> cases h
    · exact frameEvent_lastClear _ _ _ fun _ => rfl
    · rfl
  | readPeriod bytes tail =>
    rw [exec_readPeriod, execReadPeriod] at h
    split at h <;> cases h
    · exact frameEvent_lastClear _ _ _ fun _ => rfl
    · rfl
  | badcmd code f =>
    rw [exec_badcmd, execBadcmd] at h
    split at h <;> cases h
    · exact frameEvent_lastClear _ _ _ fun _ => rfl
    · rfl
  | status f => cases h; exact noArgs_lastClear s f fun _ => rfl
  | stage f =>
    cases h
    refine commandFrame_lastClear s f fun g hg s' => ?_
    obtain ⟨i, rfl⟩ := mem_stageArgs hg
    rfl
  | commit f => cases h; exact twoArgs_lastClear s f commitCommand_lastClear
  | readWindow f => cases h; exact twoArgs_lastClear s f readWindowCommand_lastClear
  | bind f => cases h; exact twoArgs_lastClear s f bindCommand_lastClear
  | readBinding f => cases h; exact oneArg_lastClear s f readBindingCommand_lastClear
  | readStream f => cases h; exact oneArg_lastClear s f readStreamCommand_lastClear
  | popFault f => cases h; exact noArgs_lastClear s f popFaultCommand_lastClear
  | setDeadline f => cases h; exact oneArg_lastClear s f setDeadlineCommand_lastClear
  | backClear f => cases h; exact noArgs_lastClear s f backClearCommand_lastClear

/-- CLEARED leaves the last-clear result, or ends a running clear DONE (R131, R132). -/
theorem cleared_lastClear {s t : State} (h : exec .cleared s = .next t) :
    t.port.lastClear = s.port.lastClear ∨
      (∃ count, s.port.back = .clearing count) ∧ t.port.back = .normal ∧ t.port.lastClear = .done := by
  by_cases hp : s.porst = true
  · rw [exec_cleared_of_porst hp] at h
    cases h
    exact .inl rfl
  · cases hb : s.port.back with
    | normal =>
      rw [exec_cleared_of_normal hb] at h
      cases h
      exact .inl rfl
    | clearing count =>
      rw [exec_cleared_of_clearing (by simpa using hp) hb] at h
      cases h
      exact .inr ⟨⟨count, rfl⟩, rfl, rfl⟩

/-- The expiry of the clear's count leaves the last-clear result, or ends a running clear FAILED (R132). -/
theorem clearDeadlineExpiry_lastClear {s t : State} (h : exec .clearDeadlineExpiry s = .next t) :
    t.port.lastClear = s.port.lastClear ∨
      (∃ count, s.port.back = .clearing count) ∧ t.port.back = .normal ∧ t.port.lastClear = .failed := by
  cases hb : s.port.back with
  | normal =>
    rw [exec_clearDeadlineExpiry_of_normal hb] at h
    cases h
    exact .inl rfl
  | clearing count =>
    rw [exec_clearDeadlineExpiry_of_clearing hb] at h
    cases h
    exact .inr ⟨⟨count, rfl⟩, rfl, rfl⟩

/-- Settles O39: PORST# and the two commands that end a clear, each by what it does; every other command leaves the
result. -/
theorem lastClearChangesAtClearEnd : Obligations.LastClearChangesAtClearEnd := by
  unfold Obligations.LastClearChangesAtClearEnd
  intro c s t h
  by_cases hp : c = .powerOnReset
  · subst hp
    cases h
    exact .inr (.inl ⟨rfl, rfl⟩)
  by_cases hc : c = .cleared
  · subst hc
    exact (cleared_lastClear h).imp_right fun ⟨hrun, hb, hl⟩ => .inr ⟨hrun, hb, .inl ⟨rfl, hl⟩⟩
  by_cases he : c = .clearDeadlineExpiry
  · subst he
    exact (clearDeadlineExpiry_lastClear h).imp_right fun ⟨hrun, hb, hl⟩ => .inr ⟨hrun, hb, .inr ⟨rfl, hl⟩⟩
  exact .inl (exec_lastClear hp hc he h)

end Sys2Proof.Machine
end

section
/-! SUPPORT. BIND: O49. -/

namespace Sys2Proof.Machine

/-! ## The context byte of BIND (R137, R175) -/

theorem bindCtxOf_none : bindCtxOf 0xFF = some none := if_pos rfl

/-- A context's byte is not FFh, so it names that context. -/
theorem bindCtxOf_ctx {c : Ctx} {cb : Byte} (h : cb.toNat = c.val) : bindCtxOf cb = some (some c) := by
  have hne : cb ≠ 0xFF := by
    rintro rfl
    have : (0xFF : Byte).toNat = 255 := rfl
    omega
  rw [bindCtxOf, if_neg hne, ctxOf_eq h, Option.map_some]

theorem bindCtxOf_eq_none {cb : Byte} (h : 7 < cb.toNat) (hne : cb ≠ 0xFF) : bindCtxOf cb = none := by
  rw [bindCtxOf, if_neg hne, ctxOf_eq_none h, Option.map_none]

/-! ## What BIND answers (R137, R140) -/

theorem exec_bind_frame (s : State) (mb cb : Byte) :
    exec (.bind ⟨[mb, cb], 0⟩) s = .next (s.commandFrame ⟨[mb, cb], 0⟩ (some (bindCommand mb cb))) := rfl

theorem bindCommand_range {mb cb : Byte} (h : 3 < mb.toNat ∨ (7 < cb.toNat ∧ cb ≠ 0xFF)) (s : State) :
    bindCommand mb cb s = (s, bare .range) := by
  unfold bindCommand
  rcases h with hm | ⟨hc, hne⟩
  · rw [masterOf_eq_none hm]
  · rw [bindCtxOf_eq_none hc hne]
    cases masterOf mb <;> rfl

theorem bindCommand_busy {m : Master} {b : Option Ctx} {mb cb : Byte} {s : State} (hm : mb.toNat = m.val)
    (hb : bindCtxOf cb = some b) (h : s.drain.state ≠ .idle) : bindCommand mb cb s = (s, bare .busy) := by
  unfold bindCommand
  rw [masterOf_eq hm, hb]
  exact if_pos ((draining_iff s).2 h)

theorem bindCommand_accepted {m : Master} {b : Option Ctx} {mb cb : Byte} {s : State} (hm : mb.toNat = m.val)
    (hb : bindCtxOf cb = some b) (h : s.drain.state = .idle) :
    bindCommand mb cb s = (s.bindEvent m b, bare .accepted) := by
  unfold bindCommand
  rw [masterOf_eq hm, hb]
  exact if_neg fun hd => (draining_iff s).1 hd h

/-- The acceptance event of a BIND, field by field (R137, R140, R142). -/
theorem bindEvent_eq (s : State) (m : Master) (b : Option Ctx) :
    s.bindEvent m b = { s with
      bindings := s.bindings.set m b
      streams := s.streams.set m none
      drain := if s.drainMembers (.bind m) = [] then { state := .idle, last := some (.bind m) }
        else { state := .draining (.bind m) (s.drainMembers (.bind m)), last := s.drain.last } } := by
  unfold State.bindEvent
  cases s.drainMembers (.bind m) <;> rfl

/-- Settles O49: RANGE by the argument bytes, then BUSY by the tracker; past both the acceptance event takes place, on
the state after the period. -/
theorem bindChangesBinding : Obligations.BindChangesBinding := by
  unfold Obligations.BindChangesBinding
  refine fun s mb cb h => ⟨fun hout => ?_, fun m b members hm hcb => ?_⟩
  · exact exec_answersBare h (exec_bind_frame s mb cb) rfl fun _ => bindCommand_range hout _
  have hb : bindCtxOf cb = some b := by
    rcases hcb with ⟨rfl, rfl⟩ | ⟨c, hc, rfl⟩
    · exact bindCtxOf_none
    · exact bindCtxOf_ctx hc
  refine ⟨fun hd => ?_, ?_⟩
  · exact exec_answersBare h (exec_bind_frame s mb cb) rfl fun _ => bindCommand_busy hm hb hd
  · rintro hd rfl
    have haccepted : bindCommand mb cb (s.beginEvent.endPeriod 3 0) = _ := bindCommand_accepted hm hb hd
    rw [exec_bind_frame, exec_frame h]
    dsimp only [List.length_cons, List.length_nil]
    rw [haccepted, bindEvent_eq]
    rfl

end Sys2Proof.Machine
end

section
/-! SUPPORT. The drain set at the beginning of a drain, and its updates: O50. -/

namespace Sys2Proof.Machine

/-! ## Which work belongs to a drain (R141, R142) -/

theorem takes_commit (c : Ctx) (w : WinIx) (g : BitVec 8) (u : Origin) :
    (DrainJob.commit c w g).takes u = true ↔ u.ctx = c ∧ u.winIx = w ∧ u.gen = g := by
  simp [DrainJob.takes, DrainJob.matchesWork, and_assoc]

theorem takes_bind (m : Master) (u : Origin) : (DrainJob.bind m).takes u = true ↔ u.master = m := by
  simp [DrainJob.takes, DrainJob.matchesWork]

/-- A COMMIT takes a request for any part that holds a copy of the replaced window (R141). -/
theorem takesRequest_commit (c : Ctx) (w : WinIx) (g : BitVec 8) (m : Master) (r : Request) :
    (DrainJob.commit c w g).takesRequest m r = true ↔
      ∃ p ∈ r.parts, ∃ x ∈ p.copy, r.ctx = c ∧ x.index = w ∧ x.gen = g := by
  rw [DrainJob.takesRequest, List.any_eq_true]
  refine exists_congr fun p => and_congr_right fun _ => ?_
  cases p.copy <;> simp [and_assoc]

theorem takesRequest_bind (m m' : Master) (r : Request) : (DrainJob.bind m).takesRequest m' r = true ↔ m' = m := by
  simp [DrainJob.takesRequest]

/-! ## The members with which a drain begins (R141, R142) -/

theorem mem_drainMembers (s : State) (job : DrainJob) (x : Member) :
    x ∈ s.drainMembers job ↔
      (∃ m, ∃ r ∈ s.record m, job.takesRequest m r = true ∧ x = .request m true [] []) ∨
      (∃ e ∈ s.pwq, job.takes e.origin = true ∧ x = .entry e.id) ∨
      (∃ k o, s.orphanAt k o ∧ job.takes o.origin = true ∧ x = .orphan k) := by
  simp only [drainMembers_eq, List.mem_append, List.mem_filterMap, requestMember_eq_some, entryMember_eq_some,
    orphanMember_eq_some, mem_masters, mem_tagNos, true_and, or_assoc]

theorem request_mem_drainMembers (s : State) (job : DrainJob) (m : Master) :
    Member.request m true [] [] ∈ s.drainMembers job ↔ ∃ r ∈ s.record m, job.takesRequest m r = true := by
  simp [mem_drainMembers]

theorem entry_mem_drainMembers (s : State) (job : DrainJob) (id : Nat) :
    Member.entry id ∈ s.drainMembers job ↔ ∃ e ∈ s.pwq, e.id = id ∧ job.takes e.origin = true := by
  simp [mem_drainMembers, @eq_comm Nat id, and_comm]

theorem orphan_mem_drainMembers (s : State) (job : DrainJob) (k : TagNo) :
    Member.orphan k ∈ s.drainMembers job ↔
      ∃ (l : LiveWork) (o : Orphan), (s.tag k).state = .live l ∧ l.owner = .orphan o ∧ job.takes o.origin = true := by
  have hat : Member.orphan k ∈ s.drainMembers job ↔ ∃ o, s.orphanAt k o ∧ job.takes o.origin = true := by
    simp [mem_drainMembers]
  rw [hat, exists_comm]
  simp only [State.orphanAt, ← exists_and_right, and_assoc]

/-- A request joins a drain as one its record holds, made into nothing yet (R143). -/
theorem request_of_mem_drainMembers {s : State} {job : DrainJob} {m : Master} {held : Bool} {entries : List Nat}
    {orphans : List TagNo} (h : Member.request m held entries orphans ∈ s.drainMembers job) :
    held = true ∧ entries = [] ∧ orphans = [] := by
  rcases (mem_drainMembers ..).1 h with ⟨m', r, -, -, hx⟩ | ⟨e, -, -, hx⟩ | ⟨k, o, -, -, hx⟩
  · cases hx
    exact ⟨rfl, rfl, rfl⟩
  · exact nomatch hx
  · exact nomatch hx

/-! ## Each member once (R141) -/

theorem requestMembers_nodup (s : State) (job : DrainJob) : (masters.filterMap (s.requestMember job)).Nodup := by
  refine List.Nodup.filterMap (fun m m' x hx hx' => ?_) (by decide)
  obtain ⟨r, -, -, rfl⟩ := (requestMember_eq_some ..).1 hx
  obtain ⟨r', -, -, hm⟩ := (requestMember_eq_some ..).1 hx'
  cases hm
  rfl

theorem entryMembers_nodup {pwq : List Entry} (h : (pwq.map (·.id)).Nodup) (job : DrainJob) :
    (pwq.filterMap (Entry.member job)).Nodup := by
  refine List.pairwise_filterMap.2 ((List.pairwise_map.1 h).imp fun hne x hx x' hx' hxx => hne ?_)
  obtain ⟨-, rfl⟩ := (entryMember_eq_some ..).1 hx
  obtain ⟨-, rfl⟩ := (entryMember_eq_some ..).1 hx'
  exact Member.entry.inj hxx

theorem orphanMembers_nodup (s : State) (job : DrainJob) : (tagNos.filterMap (s.orphanMember job)).Nodup := by
  refine List.Nodup.filterMap (fun k k' x hx hx' => ?_) (by decide)
  obtain ⟨o, -, -, rfl⟩ := (orphanMember_eq_some ..).1 hx
  obtain ⟨o', -, -, hk⟩ := (orphanMember_eq_some ..).1 hx'
  cases hk
  rfl

/-- Requests, entries and orphans are different members, so no member stands twice when the entries' numbers differ. -/
theorem drainMembers_nodup {s : State} (h : (s.pwq.map (·.id)).Nodup) (job : DrainJob) :
    (s.drainMembers job).Nodup := by
  rw [drainMembers_eq]
  refine ((requestMembers_nodup s job).append (entryMembers_nodup h job) ?_).append (orphanMembers_nodup s job) ?_
  · intro x hm he
    obtain ⟨m, -, hm⟩ := List.mem_filterMap.1 hm
    obtain ⟨r, -, -, rfl⟩ := (requestMember_eq_some ..).1 hm
    simp [entryMember_eq_some] at he
  · intro x hme hk
    obtain ⟨k, -, hk⟩ := List.mem_filterMap.1 hk
    obtain ⟨o, -, -, rfl⟩ := (orphanMember_eq_some ..).1 hk
    simp [requestMember_eq_some, entryMember_eq_some] at hme

/-! ## The end of a drain (R145) -/

/-- Settles O50: the members with which a drain begins are read off `drainMembers`, kind by kind; an update completes
the drain exactly when every member leaves. -/
theorem drainSetHoldsOldWork : Obligations.DrainSetHoldsOldWork := by
  unfold Obligations.DrainSetHoldsOldWork
  refine ⟨fun s m₀ c w g => ⟨fun m => ?_, fun id => ?_, fun k => ?_, fun m => ?_, fun id => ?_, fun k => ?_⟩,
    fun s job => ⟨fun m held entries orphans => request_of_mem_drainMembers, fun h => drainMembers_nodup h job⟩,
    fun d f => ⟨fun h => update_idle h f, fun job members h => ⟨fun hall => ?_, ?_⟩⟩⟩
  · simp only [request_mem_drainMembers, takesRequest_commit]
  · simp only [entry_mem_drainMembers, takes_commit, Entry.origin]
  · simp only [orphan_mem_drainMembers, takes_commit, Orphan.origin]
  · rw [request_mem_drainMembers]
    cases s.record m <;> simp [takesRequest_bind]
  · simp only [entry_mem_drainMembers, takes_bind, Entry.origin]
  · simp only [orphan_mem_drainMembers, takes_bind, Orphan.origin]
  · have hnone : members.filterMap (f job) = [] := List.filterMap_eq_nil_iff.2 hall
    rw [update_complete h hnone]
    cases job <;> rfl
  · rintro ⟨x, hx, hne⟩
    exact update_continue h fun hnone => hne (List.filterMap_eq_nil_iff.1 hnone x hx)

end Sys2Proof.Machine
end

section
/-! SUPPORT. The growth of the Fault Log under each operation, in every state, and the law of the log: O57. -/

namespace Sys2Proof.Machine

/-! ## Translations hand in records and take none (R25 to R31, R43) -/

theorem growsTo_completeTranslation (s : State) (m : Master) (r : Request) :
    s.log.growsTo (s.completeTranslation m r).log := by
  by_cases hw : r.part1.status = .waiting ∨ ∃ p ∈ r.part2, p.status = .waiting
  · rw [completeTranslation_of_waiting ((any_waiting_iff r).2 hw)]
    exact .refl _
  · push Not at hw
    rcases completeTranslation_cases (s := s) (m := m) hw with h | ⟨-, h⟩ | h
    · rw [h, holdRequest_eq_judge]
      exact (evolves_judgeReadiness (s.setRecord m (some (s.heldRequest r))) m).log
    · rw [h, postRequest_eq_settleHead]
      exact (evolves_settleHead (s.posted m r)).log
    · rw [h]
      exact .refl _

theorem growsTo_handInOption (s : State) (b : Option FaultBody) : s.log.growsTo (s.handInOption b).log := by
  rw [handInOption_eq]
  exact ⟨b.toList, rfl⟩

/-- The record of a part's resolution is handed in, and the translation ends. -/
theorem growsTo_resolved (s : State) (m : Master) (r : Request) (b : Option FaultBody) :
    s.log.growsTo (((s.handInOption b).setRecord m (some r)).completeTranslation m r).log :=
  (growsTo_handInOption s b).trans (growsTo_completeTranslation (State.setRecord _ m (some r)) m r)

theorem growsTo_resolveSecond (s : State) (m : Master) (found : Option WinCopy) :
    s.log.growsTo (s.resolveSecond m found).log := by
  unfold State.resolveSecond
  split
  · exact .refl _
  · exact growsTo_resolved ..

theorem growsTo_beginSecond (s : State) (m : Master) : s.log.growsTo (s.beginSecond m).log := by
  unfold State.beginSecond
  split
  · exact .refl _
  · dsimp only
    split
    · exact growsTo_resolveSecond ..
    · split
      · exact growsTo_resolveSecond ..
      · exact .refl _

theorem growsTo_resolveFirst (s : State) (m : Master) (found : Option WinCopy) :
    s.log.growsTo (s.resolveFirst m found).log := by
  unfold State.resolveFirst
  split
  · exact .refl _
  · dsimp only
    split
    · exact growsTo_resolved ..
    · exact (growsTo_handInOption s _).trans (growsTo_beginSecond (State.setRecord _ m _) m)
    · exact (growsTo_handInOption s _).trans (growsTo_beginSecond (State.setRecord _ m _) m)

/-- An acceptance hands in an UNBOUND record, or those of the parts that a stream hit resolves (R51, R52). -/
theorem growsTo_acceptOffer (s : State) (m : Master) (o : Offer) : s.log.growsTo (s.acceptOffer m o).log := by
  unfold State.acceptOffer
  dsimp only
  split
  · exact ⟨[_], rfl⟩
  · split
    · exact growsTo_resolveFirst (State.setRecord (s.takeOffer m o) m _) m _
    · exact .refl _

theorem growsTo_deliver (s : State) (l : Lookup) : s.log.growsTo (s.deliver l).log := by
  obtain ⟨streams, h⟩ := loadStream_fields s l (s.findWindow l.ctx l.granule.toNat)
  unfold State.deliver
  dsimp only
  rw [h]
  split
  · exact growsTo_resolveFirst { s with streams := streams } ..
  · exact growsTo_resolveFirst { s with streams := streams } ..
  · exact growsTo_resolveSecond { s with streams := streams } ..

/-! ## Answers and expiries (R78 to R82, R101 to R105, R124 to R127) -/

theorem growsTo_answerOp (s : State) (t : TagNo) (m : Master) (r : Request) (o : WordOp) (owner : Owner)
    (effect : AnswerEffect) (data : Bytes8) : s.log.growsTo (s.answerOp t m r o owner effect data).log := by
  cases effect with
  | merges => exact .refl _
  | completes | gathers => exact (evolves_finishRequest (State.setRecord (s.freeTag t) m _) m).log
  | fails c =>
    exact FaultLog.growsTo.trans ⟨[opFault m r o c t], rfl⟩
      (evolves_finishRequest (State.setRecord ((s.freeTag t).handIn _) m _) m).log

theorem growsTo_answerEntry (s : State) (t : TagNo) (e : Entry) (effect : AnswerEffect) (data : Bytes8) :
    s.log.growsTo (s.answerEntry t e effect data).log := by
  cases effect with
  | completes | gathers | merges => exact .refl _
  | fails c => exact (evolves_failEntry (s.freeTag t) e c t).log

theorem growsTo_answerTag (s : State) (t : TagNo) (status : AnswerStatus) (data : Bytes8) (check : Byte) :
    s.log.growsTo (s.answerTag t status data check).log := by
  cases hk : (s.tag t).state with
  | free =>
    rw [answerTag_of_free hk]
    exact ⟨[_], rfl⟩
  | quarantined word =>
    rw [answerTag_of_quarantined hk]
    exact .refl _
  | live l =>
    unfold State.answerTag State.answerLive
    simp only [hk]
    split
    · exact .refl _
    · split
      · exact .refl _
      · exact growsTo_answerEntry ..
    · split
      · exact .refl _
      · split
        · exact .refl _
        · exact growsTo_answerOp ..

/-- The work of a LIVE tag fails with one record, an orphan's with none (R63, R124). -/
theorem growsTo_expireWork (s : State) (t : TagNo) (l : LiveWork) : s.log.growsTo (s.expireWork t l).log := by
  unfold State.expireWork
  split
  · exact .refl _
  · split
    · exact .refl _
    · exact (evolves_failEntry ..).log
  · split
    · exact .refl _
    · split
      · exact .refl _
      · exact FaultLog.growsTo.trans ⟨[_], rfl⟩ (evolves_finishRequest (State.setRecord (s.handIn _) _ _) _).log

theorem growsTo_expireTag (s : State) (t : TagNo) (l : LiveWork) : s.log.growsTo (s.expireTag t l).log :=
  ((growsTo_expireWork (s.setTag t { s.tag t with state := .quarantined l.word }) t l).trans
    (evolves_judgeAll masters _).log).trans (evolves_settleHead _).log

theorem assertChannelReset_log (s : State) (m : Master) : (s.assertChannelReset m).log = s.log := by
  cases hr : s.record m with
  | none => rw [assertChannelReset_eq, abandonRequest_of_none (by exact hr)]
  | some r => rw [assertChannelReset_of_some hr]

/-! ## The law of the log over every event (R162, R164) -/

/-- Every event but POP_FAULT's hands in records, and takes none from the log; POP_FAULT takes the oldest. -/
theorem Event.log_grows_or_pops {s t : State} (h : Event s t) :
    s.log.growsTo t.log ∨
      ∃ r rest, s.log.records = r :: rest ∧ t.log = { s.log with records := rest } := by
  cases h with
  | popFault r rest hr => exact .inr ⟨r, rest, hr, rfl⟩
  | none | searchBegins | searchDiscarded | searchRepeats | clearFails | clearStarts | channelRelease | commit | bind |
    cleared => exact .inl (.refl _)
  | accept m o => exact .inl (growsTo_acceptOffer s m o)
  | searchDelivers v => exact .inl (growsTo_deliver { s with engine := .idle } v.lookup)
  | grant k choice hf => exact .inl (evolves_grant hf choice).log
  | answer k status data check => exact .inl (growsTo_answerTag s k status data check)
  | expire k l => exact .inl (growsTo_expireTag s k l)
  | channelReset m => exact .inl (assertChannelReset_log s m ▸ .refl _)

theorem Event.keepsLogOrdered {s t : State} (h : Event s t) (hs : LogOrdered s) : LogOrdered t := by
  rcases h.log_grows_or_pops with hg | ⟨r, rest, hr, ht⟩
  · exact hg.ordered hs
  · have hpop : FaultLog.ordered { s.log with records := rest } := ordered_pop hs hr
    rw [← ht] at hpop
    exact hpop

theorem Quiet.logOrdered {s t : State} (h : Quiet s t) (hs : LogOrdered s) : LogOrdered t :=
  h.evolves.log.ordered hs

theorem logOrdered_powerOn {s t : State} (h : execPowerOnReset s = .next t) : LogOrdered t := by
  cases h
  exact logOrdered_reset

theorem alert_iff (s : State) : s.alert = true ↔ s.log.records ≠ [] := by
  simp [State.alert]

/-- Settles O57: each event of a step hands in records, one at a time, or takes the oldest. -/
theorem logStaysOrdered : Obligations.LogStaysOrdered := by
  unfold Obligations.LogStaysOrdered
  refine ⟨fun s t hs h => law_of_step Quiet.logOrdered Event.keepsLogOrdered logOrdered_powerOn hs h,
    fun l b => ⟨logHandIn_next l b, fun hroom => ?_, fun hroom => ?_⟩, alert_iff⟩
  · exact logHandIn_records_of_accepts ((accepts_iff_hasRoom l).2 hroom) b
  · exact logHandIn_records_of_not (Bool.eq_false_iff.2 fun h => hroom ((accepts_iff_hasRoom l).1 h)) b

end Sys2Proof.Machine
end

section
/-! SUPPORT. POP_FAULT and the bytes of a fault record: O51. -/

namespace Sys2Proof.Machine

/-! ## Fault records as returned (R177, Table 10-6) -/

/-- Byte 3: the kind and the cause. -/
theorem kindByte_eq (k : FaultKind) (c : Option Cause) :
    kindCode k ++ causeCode c ++ 0#2 = packed [
      (4, match k with
        | .unbound => 1
        | .unmapped => 2
        | .denied => 3
        | .check => 4
        | .memory => 5
        | .timeout => 6
        | .posted => 7
        | .stray => 8),
      (2, match c with
        | none => 0
        | some .check => 1
        | some .memory => 2
        | some .timeout => 3), (2, 0)] := by
  have hpack : ∀ (a : BitVec 4) (b : BitVec 2), a ++ b ++ 0#2 = packed [(4, a.toNat), (2, b.toNat), (2, 0)] := by
    decide
  rw [hpack]
  congr 3
  · cases k <;> rfl
  · rcases c with _ | c
    · rfl
    · cases c <;> rfl

/-- Byte 4: which fields are there (R177). -/
theorem presenceByte_eq (b : FaultBody) :
    presenceByte b = packed [(1, b.req.isSome.toNat), (1, b.winIx.isSome.toNat), (1, b.word.isSome.toNat),
      (1, b.opKind.isSome.toNat), (1, b.tag.isSome.toNat), (3, 0)] := by
  have hpack : ∀ q w a o t : Bool,
      BitVec.ofBool q ++ BitVec.ofBool w ++ BitVec.ofBool a ++ BitVec.ofBool o ++ BitVec.ofBool t ++ 0#3 =
        packed [(1, q.toNat), (1, w.toNat), (1, a.toNat), (1, o.toNat), (1, t.toNat), (3, 0)] := by
    decide
  exact hpack ..

/-- Byte 5: the master, the direction, the part and the size. -/
theorem requestByte_eq (req : Option ReqFields) :
    requestByte req = match req with
      | none => 0
      | some q => packed [(2, q.master.val),
        (1, match q.dir with
          | .read => 0
          | .write => 1),
        (2, match q.label with
          | .only => 0
          | .first => 1
          | .second => 2), (3, q.sizeM1.toNat)] := by
  have hpack : ∀ (m : Master) (d : BitVec 1) (l : BitVec 2) (n : BitVec 3),
      BitVec.ofNat 2 m.val ++ d ++ l ++ n = packed [(2, m.val), (1, d.toNat), (2, l.toNat), (3, n.toNat)] := by
    decide
  cases req with
  | none => rfl
  | some q =>
    obtain ⟨m, c, serial, dir, addr, sizeM1, label⟩ := q
    refine (hpack m (dirBit dir) (labelCode label) sizeM1).trans ?_
    cases dir <;> cases label <;> rfl

/-- Byte 6: the context, Fh for none (R158), and the window index. -/
theorem contextByte_eq (req : Option ReqFields) (winIx : Option WinIx) :
    contextByte req winIx = packed [
      (4, match req with
        | none => 0
        | some q => match q.ctx with
          | none => 15
          | some c => c.val),
      (4, match winIx with
        | none => 0
        | some w => w.val)] := by
  have hnone : ∀ w : WinIx, 0#4 ++ BitVec.ofNat 4 w.val = packed [(4, 0), (4, w.val)] := by decide
  have hsome : ∀ (c : Option Ctx) (w : WinIx),
      ctxNibble c ++ BitVec.ofNat 4 w.val =
        packed [(4, match c with
          | none => 15
          | some c => c.val), (4, w.val)] := by
    decide
  cases req with
  | none => cases winIx with
    | none => rfl
    | some w => exact hnone w
  | some q => cases winIx with
    | none => exact hsome q.ctx 0
    | some w => exact hsome q.ctx w

/-- Byte 11: the operation kind and the tag. -/
theorem operationByte_eq (opKind : Option OpKind) (tag : Option TagNo) :
    operationByte opKind tag = packed [
      (2, match opKind with
        | none => 0
        | some .read => 0
        | some .write => 1
        | some .rmw => 2), (3, 0),
      (3, match tag with
        | none => 0
        | some t => t.val)] := by
  have hpack : ∀ (o : BitVec 2) (t : TagNo),
      o ++ 0#3 ++ BitVec.ofNat 3 t.val = packed [(2, o.toNat), (3, 0), (3, t.val)] := by
    decide
  rcases opKind with _ | k
  · cases tag with
    | none => rfl
    | some t => exact hpack 0 t
  · cases tag with
    | none => cases k <;> rfl
    | some t =>
      refine (hpack (opKindCode k) t).trans ?_
      cases k <;> rfl

/-! ## POP_FAULT (R164) -/

theorem exec_popFault_frame (s : State) :
    exec (.popFault ⟨[], 0⟩) s = .next (s.commandFrame ⟨[], 0⟩ (some popFaultCommand)) := rfl

theorem popFaultCommand_empty {s : State} (h : s.log.records = []) : popFaultCommand s = (s, bare .empty) := by
  unfold popFaultCommand
  rw [h]

theorem popFaultCommand_cons {s : State} {r : FaultRecord} {rest : List FaultRecord} (h : s.log.records = r :: rest) :
    popFaultCommand s =
      ({ s with log := { s.log with records := rest } }, { status := .done, result := faultBytes r }) := by
  unfold popFaultCommand
  rw [h]

/-- Settles O51: the end of the period leaves the log, so the command meets the log of s; then the bytes, one by
one. -/
theorem popFaultTakesOldest : Obligations.PopFaultTakesOldest := by
  unfold Obligations.PopFaultTakesOldest
  refine ⟨fun s h => ⟨fun hempty => ?_, fun r rest hr => ?_⟩, ?_⟩
  · exact exec_answersBare h (exec_popFault_frame s) rfl fun b =>
      popFaultCommand_empty (s := s.afterPeriod 1 0 b) hempty
  · have hpop : popFaultCommand (s.beginEvent.endPeriod 1 0) = _ := popFaultCommand_cons hr
    rw [exec_popFault_frame, exec_frame h]
    dsimp only [List.length_nil]
    rw [hpop]
    rfl
  · rintro r b rfl
    rw [faultBytes, bytes16_eq, bytes24_eq, bytes32_eq, kindByte_eq, presenceByte_eq, requestByte_eq, contextByte_eq,
      operationByte_eq]
    cases r.body.req <;> cases r.body.word <;> rfl

end Sys2Proof.Machine
end

section
/-! SUPPORT. The periods of the Maintenance Link: O42, O43, O44 and O54. -/

namespace Sys2Proof.Machine

/-! ## The frame event (R167, R171) -/

/-- A judged period takes its effect on the state after it, in which the buffer still stands. -/
theorem frameEvent_of_judges {s : State} (h : s.judgesPeriod) (n k : Nat) (effect : State → State) :
    s.frameEvent n k effect = effect (s.afterPeriod n k s.link.buffer) := by
  rw [frameEvent_of_takes ((takesPeriod_iff s).2 h), endPeriod_eq]

/-- A period that is not judged takes no effect but its end (R171). -/
theorem frameEvent_of_not_judges {s : State} (h : ¬ s.judgesPeriod) (n k : Nat) (effect : State → State) :
    s.frameEvent n k effect = s.afterPeriod n k s.link.buffer := by
  rw [← takesPeriod_iff, Bool.not_eq_true] at h
  rw [frameEvent_of_not h, endPeriod_eq]

/-- A period without effect of its own ends in the same way, judged or not. -/
theorem frameEvent_id (s : State) (n k : Nat) :
    (s.frameEvent n k fun s' => s') = s.afterPeriod n k s.link.buffer := ite_self _

theorem exec_shortPeriod_frame {edges : Nat} (h : edges < 8) (s : State) :
    exec (.shortPeriod edges) s = .next (s.frameEvent 0 edges fun s' => s') := if_pos h

theorem exec_readPeriod_frame {bytes : Nat} (h : 1 ≤ bytes) (tail : Nat) (s : State) :
    exec (.readPeriod bytes tail) s = .next (s.frameEvent bytes tail fun s' => s'.setBuffer none) := if_pos h

theorem exec_badcmd_frame {code : Byte} (h0 : code ≠ 0) (hc : code ∉ commandCodes) (f : Frame) (s : State) :
    exec (.badcmd code f) s =
      .next (s.frameEvent (f.args.length + 1) f.tail fun s' => s'.setBuffer (some (bare .badcmd))) :=
  if_pos ⟨h0, hc⟩

/-! ## The assertion of MSEL#, and what MDO shows (R167, R168) -/

/-- With PORST# released, the assertion of a deasserted MSEL# begins a period that shows the buffer (R168). -/
theorem exec_mselAssertion_begins {s : State} (hp : s.porst = false) (hd : s.link.period = .none) :
    exec .mselAssertion s = .next { s with
      link := { buffer := s.link.buffer, period := .running s.link.buffer }
      out := Out.quiet } := by
  rw [exec_mselAssertion, execMselAssertion, hd]
  dsimp only
  rw [if_neg (by simp [hp])]
  rfl

theorem mdoOver_byte (shown : Option Response) {bytes i : Nat} (tail : Nat) (h : i < bytes) :
    (mdoOver shown bytes tail).bytes[i]? = some (mdoByte shown i) := by
  simp [mdoOver, h]

/-- An empty buffer shows EMPTY, then 00h. -/
theorem mdoByte_none (i : Nat) : mdoByte none i = if i = 0 then 0x0A else 0 := by
  cases i <;> rfl

/-- A response shows its status, its result bytes, then 00h. -/
theorem mdoByte_some (r : Response) (i : Nat) :
    mdoByte (some r) i = if i = 0 then statusCode r.status else r.result.getD (i - 1) 0 := by
  cases i <;> rfl

/-- Settles O42: the assertion, the two periods that carry no frame, and MDO byte by byte. -/
theorem periodsShowBuffer : Obligations.PeriodsShowBuffer := by
  unfold Obligations.PeriodsShowBuffer
  refine ⟨fun s => exec_mselAssertion_begins, fun s edges h => ?_, fun s bytes tail h hb => ?_,
    fun shown bytes tail i h => ?_, rfl⟩
  · rw [exec_shortPeriod_frame h, frameEvent_id]
  · rw [exec_readPeriod_frame hb, frameEvent_of_judges h, afterPeriod_setBuffer]
  · rw [mdoOver_byte shown tail h]
    cases shown with
    | none => rw [mdoByte_none]
    | some r => rw [mdoByte_some]

/-! ## Frames of a wrong length (R169) -/

/-- A frame of another length than n, or with an incomplete byte, is no list of n argument bytes. -/
theorem exactArgs_ne {f : Frame} {args : List Byte} (h : f.args.length ≠ args.length ∨ f.tail ≠ 0) :
    exactArgs f ≠ some args := by
  unfold exactArgs
  rcases h with hlen | htail
  · split
    · exact fun he => hlen (congrArg List.length (Option.some.inj he))
    · exact nofun
  · rw [if_neg htail]
    exact nofun

theorem noArgs_eq_none {f : Frame} (h : f.args.length ≠ 0 ∨ f.tail ≠ 0) (cmd : State → State × Response) :
    noArgs f cmd = none := by
  unfold noArgs
  split
  · next he => exact absurd he (exactArgs_ne h)
  · rfl

theorem oneArg_eq_none {f : Frame} (h : f.args.length ≠ 1 ∨ f.tail ≠ 0) (cmd : Byte → State → State × Response) :
    oneArg f cmd = none := by
  unfold oneArg
  split
  · next he => exact absurd he (exactArgs_ne h)
  · rfl

theorem twoArgs_eq_none {f : Frame} (h : f.args.length ≠ 2 ∨ f.tail ≠ 0)
    (cmd : Byte → Byte → State → State × Response) : twoArgs f cmd = none := by
  unfold twoArgs
  split
  · next he => exact absurd he (exactArgs_ne h)
  · rfl

theorem stageArgs_eq_none {f : Frame} (h : f.args.length ≠ 8 ∨ f.tail ≠ 0) : stageArgs f = none := by
  unfold stageArgs
  split
  · next he => exact absurd he (exactArgs_ne h)
  · rfl

/-- A judged frame of the wrong length changes only the buffer, to BADLEN. -/
theorem commandFrame_badlen {s : State} (h : s.judgesPeriod) {f : Frame}
    {cmd : Option (State → State × Response)} (hcmd : cmd = none) :
    s.commandFrame f cmd = s.afterPeriod (f.args.length + 1) f.tail (some { status := .badlen, result := [] }) := by
  rw [State.commandFrame, frameEvent_of_judges h, hcmd]
  rfl

/-- Settles O43: BADCMD has one effect, and a frame of the wrong length gives its command no arguments. -/
theorem badFramesChangeOnlyBuffer : Obligations.BadFramesChangeOnlyBuffer := by
  unfold Obligations.BadFramesChangeOnlyBuffer
  refine fun s f h => ⟨fun code h0 hc => ?_, fun c n hmem hbad => ?_⟩
  · rw [exec_badcmd_frame h0 hc, frameEvent_of_judges h]
    rfl
  · simp only [List.mem_cons, List.not_mem_nil, or_false, Prod.mk.injEq] at hmem
    obtain ⟨rfl, rfl⟩ | ⟨rfl, rfl⟩ | ⟨rfl, rfl⟩ | ⟨rfl, rfl⟩ | ⟨rfl, rfl⟩ | ⟨rfl, rfl⟩ | ⟨rfl, rfl⟩ | ⟨rfl, rfl⟩ |
      ⟨rfl, rfl⟩ | ⟨rfl, rfl⟩ := hmem
    · rw [exec_status, execStatus, commandFrame_badlen h (noArgs_eq_none hbad _)]
    · rw [exec_stage, execStage, commandFrame_badlen h (stageArgs_eq_none hbad)]
    · rw [exec_commit, execCommit, commandFrame_badlen h (twoArgs_eq_none hbad _)]
    · rw [exec_readWindow, execReadWindow, commandFrame_badlen h (twoArgs_eq_none hbad _)]
    · rw [exec_bind, execBind, commandFrame_badlen h (twoArgs_eq_none hbad _)]
    · rw [exec_readBinding, execReadBinding, commandFrame_badlen h (oneArg_eq_none hbad _)]
    · rw [exec_readStream, execReadStream, commandFrame_badlen h (oneArg_eq_none hbad _)]
    · rw [exec_popFault, execPopFault, commandFrame_badlen h (noArgs_eq_none hbad _)]
    · rw [exec_setDeadline, execSetDeadline, commandFrame_badlen h (oneArg_eq_none hbad _)]
    · rw [exec_backClear, execBackClear, commandFrame_badlen h (noArgs_eq_none hbad _)]

/-! ## The command that a period carries (R167, R169, Table 10-1) -/

theorem decodePeriod_read (args : List Byte) (tail : Nat) :
    decodePeriod ⟨0x00 :: args, tail⟩ = .readPeriod (args.length + 1) tail := rfl

/-- A byte 0 that is neither 00h nor a command code is BADCMD (R169). -/
theorem decodePeriod_badcmd {code : Byte} (h0 : code ≠ 0) (hc : code ∉ commandCodes) (args : List Byte) (tail : Nat) :
    decodePeriod ⟨code :: args, tail⟩ = .badcmd code ⟨args, tail⟩ := by
  simp only [commandCodes, List.mem_cons, List.not_mem_nil, or_false, not_or] at hc
  obtain ⟨h01, h10, h11, h12, h20, h21, h22, h30, h40, h41⟩ := hc
  simp only [decodePeriod]
  rw [if_neg h0, if_neg h01, if_neg h10, if_neg h11, if_neg h12, if_neg h20, if_neg h21, if_neg h22, if_neg h30,
    if_neg h40, if_neg h41]

/-- A period whose byte 0 is a command code is a command frame of its length. -/
theorem exec_decodePeriod_command {code : Byte} (hc : code ∈ commandCodes) (args : List Byte) (tail : Nat)
    (s : State) :
    ∃ cmd, exec (decodePeriod ⟨code :: args, tail⟩) s = .next (s.commandFrame ⟨args, tail⟩ cmd) := by
  simp only [commandCodes, List.mem_cons, List.not_mem_nil, or_false] at hc
  rcases hc with rfl | rfl | rfl | rfl | rfl | rfl | rfl | rfl | rfl | rfl <;> exact ⟨_, rfl⟩

/-- Every period of the link is one frame event of its length, whatever it carries (R167). -/
theorem exec_decodePeriod (p : PeriodBits) (hp : p.tail < 8) (s : State) :
    ∃ effect, exec (decodePeriod p) s = .next (s.frameEvent p.bytes.length p.tail effect) := by
  obtain ⟨bytes, tail⟩ := p
  cases bytes with
  | nil => exact ⟨_, exec_shortPeriod_frame hp s⟩
  | cons code args =>
    by_cases h0 : code = 0
    · subst h0
      exact ⟨_, exec_readPeriod_frame (Nat.le_add_left 1 _) tail s⟩
    · by_cases hc : code ∈ commandCodes
      · obtain ⟨cmd, hcmd⟩ := exec_decodePeriod_command hc args tail s
        exact ⟨fun s' => s'.takeCommand cmd, hcmd⟩
      · rw [decodePeriod_badcmd h0 hc]
        exact ⟨_, exec_badcmd_frame h0 hc ⟨args, tail⟩ s⟩

/-- Settles O44: every period is one frame event, and one that is not judged only ends. -/
theorem linkIgnoresPeriodsUnderReset : Obligations.LinkIgnoresPeriodsUnderReset := by
  unfold Obligations.LinkIgnoresPeriodsUnderReset
  intro s p h hp
  obtain ⟨effect, heffect⟩ := exec_decodePeriod p hp s
  rw [heffect, frameEvent_of_not_judges h]

/-- A read period of at least one byte is read back, its bytes all 00h. -/
theorem decodePeriod_replicate {bytes : Nat} (h : 1 ≤ bytes) (tail : Nat) :
    decodePeriod ⟨List.replicate bytes 0, tail⟩ = .readPeriod bytes tail := by
  obtain ⟨n, rfl⟩ := Nat.exists_eq_add_of_le' h
  rw [List.replicate_succ, decodePeriod_read, List.length_replicate]

/-- Settles O54, by the command: only those of the link have a period, and byte 0 tells them apart. -/
theorem periodDecodesToItsCommand : Obligations.PeriodDecodesToItsCommand := by
  unfold Obligations.PeriodDecodesToItsCommand
  intro i p hwf hp
  cases i with
  | shortPeriod edges => cases hp; rfl
  | readPeriod bytes tail =>
    cases hp
    simp only [Instr.wellFormed, Bool.and_eq_true, decide_eq_true_eq] at hwf
    obtain ⟨hbytes, _⟩ := hwf
    exact decodePeriod_replicate hbytes tail
  | badcmd code f =>
    cases hp
    simp only [Instr.wellFormed, Bool.and_eq_true, bne_iff_ne, Bool.not_eq_true', List.contains_eq_mem,
      decide_eq_false_iff_not] at hwf
    obtain ⟨⟨h0, hc⟩, _⟩ := hwf
    exact decodePeriod_badcmd h0 hc f.args f.tail
  | status f => cases hp; rfl
  | stage f => cases hp; rfl
  | commit f => cases hp; rfl
  | readWindow f => cases hp; rfl
  | bind f => cases hp; rfl
  | readBinding f => cases hp; rfl
  | readStream f => cases hp; rfl
  | popFault f => cases hp; rfl
  | setDeadline f => cases hp; rfl
  | backClear f => cases hp; rfl
  | requestAcceptance | offerRemoval | searchBegin | searchCompletion | repeatedSearchCompletion | tagGrant | answer
  | deadlineExpiry | cleared | clearDeadlineExpiry | channelResetAssertion | channelResetRelease | powerOnReset
  | powerOnResetRelease | mselAssertion => exact nomatch hp

end Sys2Proof.Machine
end

section
/-! SUPPORT. The answer that names no tag of the pool: O34. -/

namespace Sys2Proof.Machine

/-- While PORST# is released, an answer that names a number past the pool's six tags only begins its event (R180). -/
theorem exec_answer_outside_pool {s : State} {tag : BitVec 3} (hp : s.porst = false) (ht : 6 ≤ tag.toNat)
    (status : AnswerStatus) (data : Bytes8) (check : Byte) :
    exec (.answer tag status data check) s = .next s.beginEvent := by
  have hreleased : ¬ s.porst = true := by simp [hp]
  rw [exec_answer, execAnswer, if_neg hreleased, dif_neg (Nat.not_lt.2 ht)]

/-- Settles O34, by PORST#: asserted, it drops every answer (R179); released, the pool's bound discards this one. -/
theorem answerOutsidePoolDiscarded : Obligations.AnswerOutsidePoolDiscarded := by
  unfold Obligations.AnswerOutsidePoolDiscarded
  intro s tag status data check ht
  show exec (.answer tag status data check) s = .next s.beginEvent
  by_cases hp : s.porst = true
  · exact exec_answer_of_porst hp tag status data check
  · exact exec_answer_outside_pool (Bool.eq_false_of_not_eq_true hp) ht status data check

end Sys2Proof.Machine
end

section
/-! SUPPORT. One step, and what every command has in common: it answers a next state and leaves the queue of commands;
one whose event cannot occur only begins its event: O1 and O2. -/

namespace Sys2Proof.Machine

/-! ## One step -/

theorem step_of_cons {s : State} {c : Instr} {rest : List Instr} (h : s.pending = c :: rest) :
    step s = exec c { s with pending := rest } := by
  rw [step, h]

/-- An empty queue idles (notes/assumptions/1.md). -/
theorem step_of_nil {s : State} (h : s.pending = []) : step s = .next s := by
  rw [step, h]

/-- Settles O1: by the queue, with a command at its front or empty. -/
theorem stepRunsFrontCommand : Obligations.StepRunsFrontCommand := by
  unfold Obligations.StepRunsFrontCommand
  exact ⟨fun _ _ _ => step_of_cons, fun _ => step_of_nil⟩

/-! ## Commands whose event cannot occur (notes/assumptions/3.md, 8.md, 20.md) -/

/-- No search begins on a busy engine, nor from an empty list (R36). -/
theorem exec_searchBegin_of_none {s : State} (h : s.engine ≠ .idle ∨ s.waitList = []) :
    exec .searchBegin s = .next s.beginEvent := by
  rw [exec_searchBegin, execSearchBegin]
  split
  · next hi hw =>
    rcases h with hbusy | hempty
    · exact absurd hi hbusy
    · exact nomatch hw.symm.trans hempty
  · rfl

/-- Without a first attempt none completes (R38). -/
theorem exec_searchCompletion_of_none {s : State} (h : ∀ v : Served, s.engine ≠ .searching v) :
    exec .searchCompletion s = .next s.beginEvent := by
  rw [exec_searchCompletion, execSearchCompletion]
  cases he : s.engine with
  | idle => rfl
  | repeating v => rfl
  | searching v => exact absurd he (h v)

/-- Without a repeated search none completes (R39). -/
theorem exec_repeatedSearchCompletion_of_none {s : State} (h : ∀ v : Served, s.engine ≠ .repeating v) :
    exec .repeatedSearchCompletion s = .next s.beginEvent := by
  rw [exec_repeatedSearchCompletion, execRepeatedSearchCompletion]
  cases he : s.engine with
  | idle => rfl
  | searching v => rfl
  | repeating v => exact absurd he (h v)

/-- A tag that is not LIVE has no count that could expire (R123). -/
theorem exec_deadlineExpiry_of_not_live {s : State} {t : TagNo} (h : ∀ l : LiveWork, (s.tag t).state ≠ .live l) :
    exec (.deadlineExpiry t) s = .next s.beginEvent := by
  rw [exec_deadlineExpiry, execDeadlineExpiry]
  cases hk : (s.tag t).state with
  | free => rfl
  | quarantined w => rfl
  | live l => exact absurd hk (h l)

/-- With no taken offer none is removed (R47). -/
theorem exec_removal_of_not_taken {s : State} {m : Master} (h : (s.channel m).taken = false) :
    exec (.offerRemoval m) s = .next s.beginEvent := by
  rw [exec_offerRemoval, execOfferRemoval, if_neg (by simp [h])]

/-- MSEL# already asserted is not asserted again (R167). -/
theorem exec_mselAssertion_of_asserted {s : State} (h : s.link.period ≠ .none) :
    exec .mselAssertion s = .next s.beginEvent := by
  rw [exec_mselAssertion, execMselAssertion]
  cases hd : s.link.period with
  | none => exact absurd hd h
  | running shown => rfl
  | ignored shown => rfl

/-- A period of 8 edges or more is not short (R167). -/
theorem exec_shortPeriod_of_long {edges : Nat} (h : 8 ≤ edges) (s : State) :
    exec (.shortPeriod edges) s = .next s.beginEvent := if_neg (Nat.not_lt.2 h)

/-- A read period has at least its byte 0 (R168). -/
theorem exec_readPeriod_of_zero (tail : Nat) (s : State) :
    exec (.readPeriod 0 tail) s = .next s.beginEvent := rfl

/-- The read byte and the command codes are not a bad command's (R169). -/
theorem exec_badcmd_of_code {code : Byte} (h : code ∈ 0x00 :: commandCodes) (f : Frame) (s : State) :
    exec (.badcmd code f) s = .next s.beginEvent :=
  if_neg fun ⟨h0, hc⟩ => (List.mem_cons.1 h).elim h0 hc

/-! ## The queue under what the commands do -/

/-- The outcome is a next state, whose queue of commands is that of s. -/
def LeavesQueue (s : State) (x : Host.Outcome State Fault Refusal) : Prop :=
  ∃ t : State, x = .next t ∧ t.pending = s.pending

theorem leavesQueue_next {s t : State} (h : t.pending = s.pending) : LeavesQueue s (.next t) := ⟨t, rfl, h⟩

theorem leavesQueue_beginEvent (s : State) : LeavesQueue s (.next s.beginEvent) := leavesQueue_next rfl

theorem offerWaits_pending (s : State) (m : Master) (o : Offer) : (s.offerWaits m o).pending = s.pending := by
  unfold State.offerWaits
  split <;> rfl

/-- A delivery leaves the queue: it loads a stream record, and the rest is the request's course. -/
theorem deliver_pending (s : State) (l : Lookup) : (s.deliver l).pending = s.pending := by
  obtain ⟨streams, h⟩ := loadStream_fields s l (s.findWindow l.ctx l.granule.toNat)
  rw [(deliver_tables s l).pending, h]

/-- The frame event of a period leaves the queue when its effect does. -/
theorem frameEvent_pending (s : State) (n k : Nat) {effect : State → State}
    (h : ∀ s', (effect s').pending = s'.pending) : (s.frameEvent n k effect).pending = s.pending := by
  unfold State.frameEvent
  split
  · exact h _
  · rfl

/-- The command of a frame leaves the queue. -/
def CommandLeavesQueue (cmd : State → State × Response) : Prop := ∀ s, (cmd s).1.pending = s.pending

/-- A command frame leaves the queue when its command does; a frame of the wrong length has none. -/
theorem leavesQueue_commandFrame (s : State) (f : Frame) {cmd : Option (State → State × Response)}
    (h : ∀ g ∈ cmd, CommandLeavesQueue g) : LeavesQueue s (.next (s.commandFrame f cmd)) := by
  refine leavesQueue_next (frameEvent_pending s _ _ fun s' => ?_)
  cases cmd with
  | none => rfl
  | some g => exact h g rfl s'

theorem leavesQueue_noArgs (s : State) (f : Frame) {cmd : State → State × Response} (h : CommandLeavesQueue cmd) :
    LeavesQueue s (.next (s.commandFrame f (noArgs f cmd))) :=
  leavesQueue_commandFrame s f fun _ hg => mem_noArgs hg ▸ h

theorem leavesQueue_oneArg (s : State) (f : Frame) {cmd : Byte → State → State × Response}
    (h : ∀ a, CommandLeavesQueue (cmd a)) : LeavesQueue s (.next (s.commandFrame f (oneArg f cmd))) :=
  leavesQueue_commandFrame s f fun _ hg => by
    obtain ⟨a, rfl⟩ := mem_oneArg hg
    exact h a

theorem leavesQueue_twoArgs (s : State) (f : Frame) {cmd : Byte → Byte → State → State × Response}
    (h : ∀ a b, CommandLeavesQueue (cmd a b)) : LeavesQueue s (.next (s.commandFrame f (twoArgs f cmd))) :=
  leavesQueue_commandFrame s f fun _ hg => by
    obtain ⟨a, b, rfl⟩ := mem_twoArgs hg
    exact h a b

theorem commitCommand_leavesQueue (cb wb : Byte) : CommandLeavesQueue (commitCommand cb wb) := fun s => by
  rcases commitCommand_cases cb wb s with h | ⟨c, w, -, h⟩ <;> rw [h]
  rfl

theorem readWindowCommand_leavesQueue (cb wb : Byte) : CommandLeavesQueue (readWindowCommand cb wb) := fun s => by
  unfold readWindowCommand
  split <;> rfl

theorem bindCommand_leavesQueue (mb cb : Byte) : CommandLeavesQueue (bindCommand mb cb) := fun s => by
  unfold bindCommand
  split
  · split <;> rfl
  · rfl

theorem readBindingCommand_leavesQueue (mb : Byte) : CommandLeavesQueue (readBindingCommand mb) := fun s => by
  unfold readBindingCommand
  split <;> rfl

theorem readStreamCommand_leavesQueue (mb : Byte) : CommandLeavesQueue (readStreamCommand mb) := fun s => by
  unfold readStreamCommand
  split <;> rfl

theorem popFaultCommand_leavesQueue : CommandLeavesQueue popFaultCommand := fun s => by
  cases h : s.log.records with
  | nil => rw [popFaultCommand_empty h]
  | cons r rest => rw [popFaultCommand_cons h]

theorem setDeadlineCommand_leavesQueue (v : Byte) : CommandLeavesQueue (setDeadlineCommand v) := fun s => by
  by_cases hv : v = 0
  · rw [hv, setDeadlineCommand_zero]
  · rw [setDeadlineCommand_of_ne hv]

theorem backClearCommand_leavesQueue : CommandLeavesQueue backClearCommand := fun s => by
  unfold backClearCommand
  split
  · rfl
  · split <;> rfl

/-! ## Every command -/

theorem searchBegin_leavesQueue (s : State) : LeavesQueue s (exec .searchBegin s) := by
  rw [exec_searchBegin, execSearchBegin]
  split
  · exact leavesQueue_next rfl
  · exact leavesQueue_beginEvent s

/-- A first attempt that completes is discarded, delivered or repeated (R38, R41). -/
theorem searchCompletion_leavesQueue (s : State) : LeavesQueue s (exec .searchCompletion s) := by
  rw [exec_searchCompletion, execSearchCompletion]
  split
  · exact leavesQueue_beginEvent s
  · exact leavesQueue_beginEvent s
  · split
    · exact leavesQueue_next rfl
    · split
      · exact leavesQueue_next (deliver_pending _ _)
      · exact leavesQueue_next rfl

/-- A repeated search that completes is discarded or delivered (R39, R41). -/
theorem repeatedSearchCompletion_leavesQueue (s : State) : LeavesQueue s (exec .repeatedSearchCompletion s) := by
  rw [exec_repeatedSearchCompletion, execRepeatedSearchCompletion]
  split
  · exact leavesQueue_beginEvent s
  · exact leavesQueue_beginEvent s
  · split
    · exact leavesQueue_next rfl
    · exact leavesQueue_next (deliver_pending _ _)

/-- An answer is dropped under PORST#, interpreted by the tag of the pool it names, or discarded (R114, R179, R180). -/
theorem answer_leavesQueue (tag : BitVec 3) (status : AnswerStatus) (data : Bytes8) (check : Byte) (s : State) :
    LeavesQueue s (exec (.answer tag status data check) s) := by
  rw [exec_answer, execAnswer]
  split
  · exact leavesQueue_beginEvent s
  · split
    · exact leavesQueue_next (keepsTables_answerTag _ _ _ _ _).pending
    · exact leavesQueue_beginEvent s

theorem cleared_leavesQueue (s : State) : LeavesQueue s (exec .cleared s) := by
  rw [exec_cleared, execCleared]
  split
  · exact leavesQueue_beginEvent s
  · split
    · exact leavesQueue_beginEvent s
    · exact leavesQueue_next rfl

/-- Every command answers a next state, with the queue of commands as it was. -/
theorem exec_leavesQueue (c : Instr) (s : State) : LeavesQueue s (exec c s) := by
  cases c with
  | requestAcceptance m o =>
    by_cases ha : s.mayAccept m
    · rw [exec_accept ha]
      exact leavesQueue_next (keepsTables_acceptOffer s.beginEvent m o).pending
    · rw [exec_wait ha]
      exact leavesQueue_next (offerWaits_pending s.beginEvent m o)
  | offerRemoval m =>
    rw [exec_offerRemoval, execOfferRemoval]
    split
    · exact leavesQueue_next rfl
    · exact leavesQueue_beginEvent s
  | searchBegin => exact searchBegin_leavesQueue s
  | searchCompletion => exact searchCompletion_leavesQueue s
  | repeatedSearchCompletion => exact repeatedSearchCompletion_leavesQueue s
  | tagGrant k choice =>
    by_cases hf : (s.tag k).state = .free
    · rw [exec_grant_of_free hf]
      exact leavesQueue_next (keepsTables_grant s.beginEvent k choice).pending
    · rw [exec_grant_of_not_free hf]
      exact leavesQueue_beginEvent s
  | answer tag status data check => exact answer_leavesQueue tag status data check s
  | deadlineExpiry k =>
    rw [exec_deadlineExpiry, execDeadlineExpiry]
    split
    · exact leavesQueue_beginEvent s
    · exact leavesQueue_beginEvent s
    · next l _ => exact leavesQueue_next (expireTag_keeps s.beginEvent k l).pending
  | cleared => exact cleared_leavesQueue s
  | clearDeadlineExpiry =>
    rw [exec_clearDeadlineExpiry, execClearDeadlineExpiry]
    split
    · exact leavesQueue_beginEvent s
    · exact leavesQueue_next rfl
  | channelResetAssertion m => exact leavesQueue_next (keepsTables_abandonRequest _ m).pending
  | channelResetRelease m => exact leavesQueue_next rfl
  | powerOnReset => exact leavesQueue_next rfl
  | powerOnResetRelease => exact leavesQueue_next rfl
  | mselAssertion =>
    rw [exec_mselAssertion, execMselAssertion]
    split
    · exact leavesQueue_next rfl
    · exact leavesQueue_beginEvent s
    · exact leavesQueue_beginEvent s
  | shortPeriod edges =>
    rw [exec_shortPeriod, execShortPeriod]
    split
    · exact leavesQueue_next (frameEvent_pending s _ _ fun _ => rfl)
    · exact leavesQueue_beginEvent s
  | readPeriod bytes tail =>
    rw [exec_readPeriod, execReadPeriod]
    split
    · exact leavesQueue_next (frameEvent_pending s _ _ fun _ => rfl)
    · exact leavesQueue_beginEvent s
  | badcmd code f =>
    rw [exec_badcmd, execBadcmd]
    split
    · exact leavesQueue_next (frameEvent_pending s _ _ fun _ => rfl)
    · exact leavesQueue_beginEvent s
  | status f => exact leavesQueue_noArgs s f fun _ => rfl
  | stage f =>
    refine leavesQueue_commandFrame s f fun g hg => ?_
    obtain ⟨i, rfl⟩ := mem_stageArgs hg
    exact fun _ => rfl
  | commit f => exact leavesQueue_twoArgs s f commitCommand_leavesQueue
  | readWindow f => exact leavesQueue_twoArgs s f readWindowCommand_leavesQueue
  | bind f => exact leavesQueue_twoArgs s f bindCommand_leavesQueue
  | readBinding f => exact leavesQueue_oneArg s f readBindingCommand_leavesQueue
  | readStream f => exact leavesQueue_oneArg s f readStreamCommand_leavesQueue
  | popFault f => exact leavesQueue_noArgs s f popFaultCommand_leavesQueue
  | setDeadline f => exact leavesQueue_oneArg s f setDeadlineCommand_leavesQueue
  | backClear f => exact leavesQueue_noArgs s f backClearCommand_leavesQueue

/-- Settles O2: the queue by the command, and each event that cannot occur by its own lemma. -/
theorem everyCommandAnswersNext : Obligations.EveryCommandAnswersNext := by
  unfold Obligations.EveryCommandAnswersNext
  refine ⟨exec_leavesQueue, fun c s h => ?_⟩
  show exec c s = .next s.beginEvent
  rcases h with ⟨rfl, h⟩ | ⟨rfl, h⟩ | ⟨rfl, h⟩ | ⟨t, rfl, h⟩ | ⟨rfl, h⟩ | ⟨m, rfl, h⟩ | ⟨rfl, h⟩ | ⟨edges, rfl, h⟩ |
    ⟨tail, rfl⟩ | ⟨code, f, rfl, h⟩
  · exact exec_searchBegin_of_none h
  · exact exec_searchCompletion_of_none h
  · exact exec_repeatedSearchCompletion_of_none h
  · exact exec_deadlineExpiry_of_not_live h
  · exact exec_clearDeadlineExpiry_of_normal h
  · exact exec_removal_of_not_taken h
  · exact exec_mselAssertion_of_asserted h
  · exact exec_shortPeriod_of_long h s
  · exact exec_readPeriod_of_zero tail s
  · exact exec_badcmd_of_code h f s

end Sys2Proof.Machine
end
